-- ==== Sys2Proof/Word.lean ====
section
/-!
DEFINITION. The words of the feed link (R184) and the plain tables the blocks keep their numbered records in.
-/

namespace Sys2Proof

/-- `u8` of R184. -/
abbrev Byte := BitVec 8
/-- `u16` of R184. -/
abbrev U16 := BitVec 16
/-- `value40` of R184: two's complement, 40 bits. -/
abbrev Value40 := BitVec 40
/-- A 16-bit character code (R1, R184). -/
abbrev Code := BitVec 16
/-- A frame number, `u32` of R184; the frame counter wraps at 2^32 (R163). -/
abbrev FrameNo := BitVec 32
/-- One row of a RAM glyph: 12 pixels, the leftmost in the most significant bit (R142, R184). -/
abbrev GlyphRow := BitVec 12

/-- The level of a pin. -/
inductive Level where
  | low
  | high
deriving DecidableEq, Repr

/-- A table of numbered records in canonical form: keys strictly rising, no entry equal to the default
that an unlisted number reads as. -/
abbrev Table (β : Type) := List (Nat × β)

end Sys2Proof
end

