-- ==== Sys2Proof/Syntax.lean ====
section
/-!
DEFINITION. The commands of the controller, one constructor per row of spec/opcode_table.json, with the operands
the link carries for it (R184, R185).
-/

namespace Sys2Proof

/-- A request's frame as the input record queue holds it: kind, tag and body (R174). -/
structure Frame where
  kind : Byte
  tag : Byte
  body : List Byte
deriving DecidableEq, Repr

/-- The body of a request: its fields, or a body whose length is not the one its fields and counts require (R184). -/
inductive Body (α : Type) where
  | ops (o : α)
  | malformed (bytes : List Byte)
deriving DecidableEq, Repr

/-- FORMAT (R185): format choice. -/
structure FormatOps where
  format : Byte
deriving DecidableEq, Repr

/-- MODE (R185): area choice, the two rows, colour choice, power choice. -/
structure ModeOps where
  area : Byte
  first : Byte
  last : Byte
  colour : Byte
  power : Byte
deriving DecidableEq, Repr

/-- SCREEN (R185): back colour, D, banner text. -/
structure ScreenOps where
  back : Byte
  dim : Byte
  banner : List Byte
deriving DecidableEq, Repr

/-- One palette entry (R147): 0–255 per channel. -/
structure Rgb where
  r : Byte
  g : Byte
  b : Byte
deriving DecidableEq, Repr

/-- PALETTE (R185): start, and the entries; the count is their number. -/
structure PaletteOps where
  start : Byte
  entries : List Rgb
deriving DecidableEq, Repr

/-- STYLE (R185): class, five colours, F, four flags. -/
structure StyleOps where
  cls : Byte
  fg : Byte
  bg : Byte
  up : Byte
  down : Byte
  alert : Byte
  f : Byte
  dirtext : Byte
  und : Byte
  blk : Byte
  dim : Byte
deriving DecidableEq, Repr

/-- FONTAREA (R185). -/
structure FontAreaOps where
  area : Byte
  enabled : Byte
  start : U16
  mask : U16
  bank : Byte
  base : Byte
deriving DecidableEq, Repr

/-- GLYPHS (R185): bank, first, and the glyphs, each of 20 rows; the count is their number. -/
structure GlyphsOps where
  bank : Byte
  first : Byte
  glyphs : List (List U16)
deriving DecidableEq, Repr

/-- PAGE (R185). -/
structure PageOps where
  id : Byte
  base : U16
  rows : Byte
  cols : Byte
deriving DecidableEq, Repr

/-- UNPAGE (R185). -/
structure UnpageOps where
  id : Byte
deriving DecidableEq, Repr

/-- TEXT (R185). -/
structure TextOps where
  id : Byte
  row : Byte
  col : Byte
  fg : Byte
  bg : Byte
  flags : Byte
  codes : List Code
deriving DecidableEq, Repr

/-- FILL (R185). -/
structure FillOps where
  id : Byte
  top : Byte
  left : Byte
  rows : Byte
  cols : Byte
  code : Code
  fg : Byte
  bg : Byte
  flags : Byte
deriving DecidableEq, Repr

/-- QCELLS (R185). -/
structure QcellsOps where
  id : Byte
  row : Byte
  col : Byte
  count : Byte
deriving DecidableEq, Repr

/-- PANE (R185). -/
structure PaneOps where
  pane : Byte
  kind : Byte
  page : Byte
  srcRow : Byte
  srcCol : Byte
  scrRow : Byte
  scrCol : Byte
  rows : Byte
  cols : Byte
  priority : Byte
  w0 : Byte
  w1 : Byte
  logic : Byte
deriving DecidableEq, Repr

/-- SCROLL (R185). -/
structure ScrollOps where
  pane : Byte
  row : Byte
  col : Byte
deriving DecidableEq, Repr

/-- CLIP (R185). -/
structure ClipOps where
  window : Byte
  top : Byte
  left : Byte
  rows : Byte
  cols : Byte
deriving DecidableEq, Repr

/-- CRAWL (R185). -/
structure CrawlOps where
  fg : Byte
  bg : Byte
  codes : List Code
deriving DecidableEq, Repr

/-- CRAWLCTL (R185). -/
structure CrawlctlOps where
  speed : Byte
  blank : Byte
  clear : Byte
deriving DecidableEq, Repr

/-- DEFINE (R185). -/
structure DefineOps where
  slot : Byte
  symbol : List Byte
  scaleKind : Byte
  scaleParam : Byte
  flashStyle : Byte
  stale : U16
deriving DecidableEq, Repr

/-- DROP (R185). -/
structure DropOps where
  slot : Byte
deriving DecidableEq, Repr

/-- One column of a LAYOUT request (R185). -/
structure ColumnOps where
  source : Byte
  offset : Byte
  width : Byte
  align : Byte
  style : Byte
  sep : Byte
  maxdec : Byte
  compress : Byte
deriving DecidableEq, Repr

/-- LAYOUT (R185). -/
structure LayoutOps where
  layout : Byte
  columns : List ColumnOps
deriving DecidableEq, Repr

/-- PLACE (R185). -/
structure PlaceOps where
  slot : Byte
  page : Byte
  row : Byte
  col : Byte
  layout : Byte
deriving DecidableEq, Repr

/-- UNPLACE (R185). -/
structure UnplaceOps where
  slot : Byte
  index : Byte
deriving DecidableEq, Repr

/-- One pair of a POST (R185). -/
structure PairOps where
  field : Byte
  value : Value40
deriving DecidableEq, Repr

/-- POST (R185): slot and pairs; the pair count is their number. -/
structure PostOps where
  slot : Byte
  pairs : List PairOps
deriving DecidableEq, Repr

/-- LIMIT (R185): 3 body bytes, or 8 with a level. -/
structure LimitOps where
  slot : Byte
  limit : Byte
  action : Byte
  level : Option Value40
deriving DecidableEq, Repr

/-- ACK (R185). -/
structure AckOps where
  slot : Byte
  limit : Byte
deriving DecidableEq, Repr

/-- HOLD (R185). -/
structure HoldOps where
  value : Byte
deriving DecidableEq, Repr

/-- QSLOT (R185). -/
structure QslotOps where
  slot : Byte
deriving DecidableEq, Repr

/-- STATUS, IDENT, SAVE and RESET have an empty body (R185). -/
structure NoOps where
deriving DecidableEq, Repr

/-- NOTE (R185). -/
structure NoteOps where
  mask : Byte
deriving DecidableEq, Repr

/-- LINES (R185). -/
structure LinesOps where
  l0 : Byte
  l1 : Byte
  l2 : Byte
  l3 : Byte
deriving DecidableEq, Repr

/-- The commands: the 33 requests, each with the tag and body its frame carries, and the events. -/
inductive Instr where
  | format (tag : Byte) (body : Body FormatOps)
  | mode (tag : Byte) (body : Body ModeOps)
  | screen (tag : Byte) (body : Body ScreenOps)
  | palette (tag : Byte) (body : Body PaletteOps)
  | style (tag : Byte) (body : Body StyleOps)
  | fontarea (tag : Byte) (body : Body FontAreaOps)
  | glyphs (tag : Byte) (body : Body GlyphsOps)
  | page (tag : Byte) (body : Body PageOps)
  | unpage (tag : Byte) (body : Body UnpageOps)
  | text (tag : Byte) (body : Body TextOps)
  | fill (tag : Byte) (body : Body FillOps)
  | qcells (tag : Byte) (body : Body QcellsOps)
  | pane (tag : Byte) (body : Body PaneOps)
  | scroll (tag : Byte) (body : Body ScrollOps)
  | clip (tag : Byte) (body : Body ClipOps)
  | crawl (tag : Byte) (body : Body CrawlOps)
  | crawlctl (tag : Byte) (body : Body CrawlctlOps)
  | define (tag : Byte) (body : Body DefineOps)
  | drop (tag : Byte) (body : Body DropOps)
  | layout (tag : Byte) (body : Body LayoutOps)
  | place (tag : Byte) (body : Body PlaceOps)
  | unplace (tag : Byte) (body : Body UnplaceOps)
  | post (tag : Byte) (body : Body PostOps)
  | limit (tag : Byte) (body : Body LimitOps)
  | ack (tag : Byte) (body : Body AckOps)
  | hold (tag : Byte) (body : Body HoldOps)
  | qslot (tag : Byte) (body : Body QslotOps)
  | status (tag : Byte) (body : Body NoOps)
  | ident (tag : Byte) (body : Body NoOps)
  | note (tag : Byte) (body : Body NoteOps)
  | lines (tag : Byte) (body : Body LinesOps)
  | save (tag : Byte) (body : Body NoOps)
  | reset (tag : Byte) (body : Body NoOps)
  | unknownKind (kind : Byte) (tag : Byte) (bytes : List Byte)
  | saveCompletion
  | frameStart
  | commitStep
  | scanStart
  | sleepEntry
  | rxdByte (byte : Byte) (stopLow : Bool)
  | gapTimerExpiry
  | transmitStart (hrdy : Level)
  | transmitEnd
  | linePinChange (line : Fin 4) (level : Level)
  | debounceExpiry (line : Fin 4)
  | powerOnReset
  | hardReset
  | rdyRise
deriving DecidableEq, Repr

end Sys2Proof
end

