-- ==== Sys2Proof/WellFormed.lean ====
section
/-!
DEFINITION. Which commands the link can carry: every list has a length its count field can state, a malformed body
really has a length its fields do not require, and the frame fits the payload limit of R171.
-/

namespace Sys2Proof

/-- The request kinds of the opening file's table of requests (00, R176). -/
def requestKinds : List Nat :=
  [0x01, 0x02, 0x03, 0x04, 0x05, 0x06, 0x07, 0x10, 0x11, 0x12, 0x13, 0x14, 0x18, 0x19, 0x1A, 0x1B, 0x1C,
   0x20, 0x21, 0x22, 0x23, 0x24, 0x25, 0x26, 0x27, 0x28, 0x29, 0x30, 0x31, 0x32, 0x33, 0x34, 0x3F]

/-- Body bytes after the kind and tag of the largest payload (R171). -/
def maxBody : Nat := 1022

/-- The `u8` count at body byte `i`, if the body holds it. -/
def countAt (bytes : List Byte) (i : Nat) : Option Nat := bytes[i]?.map BitVec.toNat

/-- A body of `head + unit × n` bytes, n the count at body byte `i` (R185). -/
def countedLength (bytes : List Byte) (i head unit : Nat) : Bool :=
  match countAt bytes i with
  | some n => bytes.length == head + unit * n
  | none => false

/-- The body length that R185 requires of each request kind; a LIMIT body may be of either of its two lengths (R111). -/
def lengthFits (kind : Nat) (bytes : List Byte) : Bool :=
  match kind with
  | 0x01 => bytes.length == 1
  | 0x02 => bytes.length == 5
  | 0x03 => countedLength bytes 2 3 1
  | 0x04 => countedLength bytes 1 2 3
  | 0x05 => bytes.length == 11
  | 0x06 => bytes.length == 8
  | 0x07 => countedLength bytes 2 3 40
  | 0x10 => bytes.length == 5
  | 0x11 => bytes.length == 1
  | 0x12 => countedLength bytes 6 7 2
  | 0x13 => bytes.length == 10
  | 0x14 => bytes.length == 4
  | 0x18 => bytes.length == 13
  | 0x19 => bytes.length == 3
  | 0x1A => bytes.length == 5
  | 0x1B =>
    match countAt bytes 2, countAt bytes 3 with
    | some hi, some lo => bytes.length == 4 + 2 * (256 * hi + lo)
    | _, _ => false
  | 0x1C => bytes.length == 3
  | 0x20 => countedLength bytes 1 7 1
  | 0x21 => bytes.length == 1
  | 0x22 => countedLength bytes 1 2 8
  | 0x23 => bytes.length == 5
  | 0x24 => bytes.length == 2
  | 0x25 => countedLength bytes 1 2 6
  | 0x26 => bytes.length == 3 || bytes.length == 8
  | 0x27 => bytes.length == 2
  | 0x28 => bytes.length == 1
  | 0x29 => bytes.length == 1
  | 0x30 => bytes.length == 0
  | 0x31 => bytes.length == 0
  | 0x32 => bytes.length == 1
  | 0x33 => bytes.length == 4
  | 0x34 => bytes.length == 0
  | 0x3F => bytes.length == 0
  | _ => false

/-- A body whose fields meet `ok`, or a body of a wrong length for its kind that still fits a payload. -/
def Body.wf {α : Type} (kind : Nat) (ok : α → Bool) : Body α → Bool
  | .ops o => ok o
  | .malformed bytes => !lengthFits kind bytes && decide (bytes.length ≤ maxBody)

/-- The list is no longer than a `u8` count can state, and the body of `head + unit × n` bytes fits a payload. -/
def countFits (n head unit : Nat) : Bool := decide (n ≤ 255) && decide (head + unit * n ≤ maxBody)

/-- The commands the link and the board can give. -/
def Instr.wf : Instr → Bool
  | .format _ b => b.wf 0x01 fun _ => true
  | .mode _ b => b.wf 0x02 fun _ => true
  | .screen _ b => b.wf 0x03 fun o => countFits o.banner.length 3 1
  | .palette _ b => b.wf 0x04 fun o => countFits o.entries.length 2 3
  | .style _ b => b.wf 0x05 fun _ => true
  | .fontarea _ b => b.wf 0x06 fun _ => true
  | .glyphs _ b => b.wf 0x07 fun o => o.glyphs.all (fun g => g.length == 20) && countFits o.glyphs.length 3 40
  | .page _ b => b.wf 0x10 fun _ => true
  | .unpage _ b => b.wf 0x11 fun _ => true
  | .text _ b => b.wf 0x12 fun o => countFits o.codes.length 7 2
  | .fill _ b => b.wf 0x13 fun _ => true
  | .qcells _ b => b.wf 0x14 fun _ => true
  | .pane _ b => b.wf 0x18 fun _ => true
  | .scroll _ b => b.wf 0x19 fun _ => true
  | .clip _ b => b.wf 0x1A fun _ => true
  | .crawl _ b => b.wf 0x1B fun o => decide (4 + 2 * o.codes.length ≤ maxBody)
  | .crawlctl _ b => b.wf 0x1C fun _ => true
  | .define _ b => b.wf 0x20 fun o => countFits o.symbol.length 7 1
  | .drop _ b => b.wf 0x21 fun _ => true
  | .layout _ b => b.wf 0x22 fun o => countFits o.columns.length 2 8
  | .place _ b => b.wf 0x23 fun _ => true
  | .unplace _ b => b.wf 0x24 fun _ => true
  | .post _ b => b.wf 0x25 fun o => countFits o.pairs.length 2 6
  | .limit _ b => b.wf 0x26 fun _ => true
  | .ack _ b => b.wf 0x27 fun _ => true
  | .hold _ b => b.wf 0x28 fun _ => true
  | .qslot _ b => b.wf 0x29 fun _ => true
  | .status _ b => b.wf 0x30 fun _ => true
  | .ident _ b => b.wf 0x31 fun _ => true
  | .note _ b => b.wf 0x32 fun _ => true
  | .lines _ b => b.wf 0x33 fun _ => true
  | .save _ b => b.wf 0x34 fun _ => true
  | .reset _ b => b.wf 0x3F fun _ => true
  | .unknownKind kind _ bytes => !requestKinds.contains kind.toNat && decide (bytes.length ≤ maxBody)
  | .saveCompletion => true
  | .frameStart => true
  | .commitStep => true
  | .scanStart => true
  | .sleepEntry => true
  | .rxdByte _ _ => true
  | .gapTimerExpiry => true
  | .transmitStart _ => true
  | .transmitEnd => true
  | .linePinChange _ _ => true
  | .debounceExpiry _ => true
  | .powerOnReset => true
  | .hardReset => true
  | .rdyRise => true

end Sys2Proof
end

