-- ==== Sys2Proof/Decode.lean ====
section
/-!
DEFINITION. The request frames of the feed link (R176, R184, R185): from a frame to the command it carries, total on
any bytes, and back. The table of operations gives no row any bits, so no table word spells a command.
-/

namespace Sys2Proof

/-- A `u16`, high byte first (R184). -/
def word (hi lo : Byte) : U16 := hi ++ lo

/-- A `value40`, high byte first (R184). -/
def value40 (a b c d e : Byte) : Value40 := a ++ b ++ c ++ d ++ e

/-- `u16`s one after another. -/
def words : List Byte → List U16
  | hi :: lo :: rest => word hi lo :: words rest
  | _ => []

/-- Consecutive groups of `size` items, `n` of them. -/
def groups {α : Type} (size : Nat) : Nat → List α → List (List α)
  | 0, _ => []
  | n + 1, l => l.take size :: groups size n (l.drop size)

/-- Palette entries one after another (R185). -/
def rgbs : List Byte → List Rgb
  | r :: g :: b :: rest => ⟨r, g, b⟩ :: rgbs rest
  | _ => []

/-- Layout columns one after another (R185). -/
def columns : List Byte → List ColumnOps
  | src :: off :: w :: al :: st :: sep :: md :: co :: rest => ⟨src, off, w, al, st, sep, md, co⟩ :: columns rest
  | _ => []

/-- POST pairs one after another (R185). -/
def pairs : List Byte → List PairOps
  | f :: a :: b :: c :: d :: e :: rest => ⟨f, value40 a b c d e⟩ :: pairs rest
  | _ => []

def decodeFormat : List Byte → Body FormatOps
  | [f] => .ops ⟨f⟩
  | bs => .malformed bs

def decodeMode : List Byte → Body ModeOps
  | [a, f, l, c, p] => .ops ⟨a, f, l, c, p⟩
  | bs => .malformed bs

def decodeScreen : List Byte → Body ScreenOps
  | b :: d :: n :: chars => if chars.length = n.toNat then .ops ⟨b, d, chars⟩ else .malformed (b :: d :: n :: chars)
  | bs => .malformed bs

def decodePalette : List Byte → Body PaletteOps
  | st :: n :: rest => if rest.length = 3 * n.toNat then .ops ⟨st, rgbs rest⟩ else .malformed (st :: n :: rest)
  | bs => .malformed bs

def decodeStyle : List Byte → Body StyleOps
  | [c, fg, bg, up, dn, al, f, dt, un, bk, di] => .ops ⟨c, fg, bg, up, dn, al, f, dt, un, bk, di⟩
  | bs => .malformed bs

def decodeFontarea : List Byte → Body FontAreaOps
  | [a, e, sh, sl, mh, ml, bk, ba] => .ops ⟨a, e, word sh sl, word mh ml, bk, ba⟩
  | bs => .malformed bs

def decodeGlyphs : List Byte → Body GlyphsOps
  | bk :: fi :: n :: rest =>
    if rest.length = 40 * n.toNat then .ops ⟨bk, fi, groups 20 n.toNat (words rest)⟩
    else .malformed (bk :: fi :: n :: rest)
  | bs => .malformed bs

def decodePage : List Byte → Body PageOps
  | [i, bh, bl, r, c] => .ops ⟨i, word bh bl, r, c⟩
  | bs => .malformed bs

def decodeUnpage : List Byte → Body UnpageOps
  | [i] => .ops ⟨i⟩
  | bs => .malformed bs

def decodeText : List Byte → Body TextOps
  | i :: r :: c :: fg :: bg :: fl :: n :: rest =>
    if rest.length = 2 * n.toNat then .ops ⟨i, r, c, fg, bg, fl, words rest⟩
    else .malformed (i :: r :: c :: fg :: bg :: fl :: n :: rest)
  | bs => .malformed bs

def decodeFill : List Byte → Body FillOps
  | [i, t, l, r, c, ch, cl, fg, bg, fl] => .ops ⟨i, t, l, r, c, word ch cl, fg, bg, fl⟩
  | bs => .malformed bs

def decodeQcells : List Byte → Body QcellsOps
  | [i, r, c, n] => .ops ⟨i, r, c, n⟩
  | bs => .malformed bs

def decodePane : List Byte → Body PaneOps
  | [p, k, pg, sr, sc, dr, dc, r, c, pr, w0, w1, lo] => .ops ⟨p, k, pg, sr, sc, dr, dc, r, c, pr, w0, w1, lo⟩
  | bs => .malformed bs

def decodeScroll : List Byte → Body ScrollOps
  | [p, r, c] => .ops ⟨p, r, c⟩
  | bs => .malformed bs

def decodeClip : List Byte → Body ClipOps
  | [w, t, l, r, c] => .ops ⟨w, t, l, r, c⟩
  | bs => .malformed bs

def decodeCrawl : List Byte → Body CrawlOps
  | fg :: bg :: nh :: nl :: rest =>
    if rest.length = 2 * (word nh nl).toNat then .ops ⟨fg, bg, words rest⟩
    else .malformed (fg :: bg :: nh :: nl :: rest)
  | bs => .malformed bs

def decodeCrawlctl : List Byte → Body CrawlctlOps
  | [sp, b, c] => .ops ⟨sp, b, c⟩
  | bs => .malformed bs

def decodeDefine : List Byte → Body DefineOps
  | sl :: n :: rest =>
    match rest.drop n.toNat with
    | [k, p, fs, sh, slo] => .ops ⟨sl, rest.take n.toNat, k, p, fs, word sh slo⟩
    | _ => .malformed (sl :: n :: rest)
  | bs => .malformed bs

def decodeDrop : List Byte → Body DropOps
  | [sl] => .ops ⟨sl⟩
  | bs => .malformed bs

def decodeLayout : List Byte → Body LayoutOps
  | l :: n :: rest => if rest.length = 8 * n.toNat then .ops ⟨l, columns rest⟩ else .malformed (l :: n :: rest)
  | bs => .malformed bs

def decodePlace : List Byte → Body PlaceOps
  | [sl, p, r, c, l] => .ops ⟨sl, p, r, c, l⟩
  | bs => .malformed bs

def decodeUnplace : List Byte → Body UnplaceOps
  | [sl, i] => .ops ⟨sl, i⟩
  | bs => .malformed bs

def decodePost : List Byte → Body PostOps
  | sl :: n :: rest => if rest.length = 6 * n.toNat then .ops ⟨sl, pairs rest⟩ else .malformed (sl :: n :: rest)
  | bs => .malformed bs

def decodeLimit : List Byte → Body LimitOps
  | [sl, li, a] => .ops ⟨sl, li, a, none⟩
  | [sl, li, ac, a, b, c, d, e] => .ops ⟨sl, li, ac, some (value40 a b c d e)⟩
  | bs => .malformed bs

def decodeAck : List Byte → Body AckOps
  | [sl, li] => .ops ⟨sl, li⟩
  | bs => .malformed bs

def decodeHold : List Byte → Body HoldOps
  | [v] => .ops ⟨v⟩
  | bs => .malformed bs

def decodeQslot : List Byte → Body QslotOps
  | [sl] => .ops ⟨sl⟩
  | bs => .malformed bs

def decodeEmpty : List Byte → Body NoOps
  | [] => .ops ⟨⟩
  | bs => .malformed bs

def decodeNote : List Byte → Body NoteOps
  | [m] => .ops ⟨m⟩
  | bs => .malformed bs

def decodeLines : List Byte → Body LinesOps
  | [a, b, c, d] => .ops ⟨a, b, c, d⟩
  | bs => .malformed bs

/-- The command a request frame carries (R176, R185); every other kind is the UNKNOWN_KIND row's. -/
def decodeFrame (f : Frame) : Instr :=
  match f.kind.toNat with
  | 0x01 => .format f.tag (decodeFormat f.body)
  | 0x02 => .mode f.tag (decodeMode f.body)
  | 0x03 => .screen f.tag (decodeScreen f.body)
  | 0x04 => .palette f.tag (decodePalette f.body)
  | 0x05 => .style f.tag (decodeStyle f.body)
  | 0x06 => .fontarea f.tag (decodeFontarea f.body)
  | 0x07 => .glyphs f.tag (decodeGlyphs f.body)
  | 0x10 => .page f.tag (decodePage f.body)
  | 0x11 => .unpage f.tag (decodeUnpage f.body)
  | 0x12 => .text f.tag (decodeText f.body)
  | 0x13 => .fill f.tag (decodeFill f.body)
  | 0x14 => .qcells f.tag (decodeQcells f.body)
  | 0x18 => .pane f.tag (decodePane f.body)
  | 0x19 => .scroll f.tag (decodeScroll f.body)
  | 0x1A => .clip f.tag (decodeClip f.body)
  | 0x1B => .crawl f.tag (decodeCrawl f.body)
  | 0x1C => .crawlctl f.tag (decodeCrawlctl f.body)
  | 0x20 => .define f.tag (decodeDefine f.body)
  | 0x21 => .drop f.tag (decodeDrop f.body)
  | 0x22 => .layout f.tag (decodeLayout f.body)
  | 0x23 => .place f.tag (decodePlace f.body)
  | 0x24 => .unplace f.tag (decodeUnplace f.body)
  | 0x25 => .post f.tag (decodePost f.body)
  | 0x26 => .limit f.tag (decodeLimit f.body)
  | 0x27 => .ack f.tag (decodeAck f.body)
  | 0x28 => .hold f.tag (decodeHold f.body)
  | 0x29 => .qslot f.tag (decodeQslot f.body)
  | 0x30 => .status f.tag (decodeEmpty f.body)
  | 0x31 => .ident f.tag (decodeEmpty f.body)
  | 0x32 => .note f.tag (decodeNote f.body)
  | 0x33 => .lines f.tag (decodeLines f.body)
  | 0x34 => .save f.tag (decodeEmpty f.body)
  | 0x3F => .reset f.tag (decodeEmpty f.body)
  | _ => .unknownKind f.kind f.tag f.body

/-! ## The bytes of a request body (R184, R185) -/

/-- A `u8`. -/
def u8 (n : Nat) : Byte := BitVec.ofNat 8 n

/-- A `u16`, high byte first. -/
def u16Bytes (w : U16) : List Byte := [w.extractLsb' 8 8, w.extractLsb' 0 8]

/-- A `u32`, high byte first. -/
def u32Bytes (w : FrameNo) : List Byte :=
  [w.extractLsb' 24 8, w.extractLsb' 16 8, w.extractLsb' 8 8, w.extractLsb' 0 8]

/-- A `value40`, high byte first. -/
def value40Bytes (w : Value40) : List Byte :=
  [w.extractLsb' 32 8, w.extractLsb' 24 8, w.extractLsb' 16 8, w.extractLsb' 8 8, w.extractLsb' 0 8]

/-- The bytes of a body: those of its fields, or the malformed body as it is. -/
def Body.bytes {α : Type} (enc : α → List Byte) : Body α → List Byte
  | .ops o => enc o
  | .malformed bytes => bytes

def encodeFormat (o : FormatOps) : List Byte := [o.format]
def encodeMode (o : ModeOps) : List Byte := [o.area, o.first, o.last, o.colour, o.power]
def encodeScreen (o : ScreenOps) : List Byte := [o.back, o.dim, u8 o.banner.length] ++ o.banner
def encodePalette (o : PaletteOps) : List Byte :=
  [o.start, u8 o.entries.length] ++ o.entries.flatMap fun e => [e.r, e.g, e.b]
def encodeStyle (o : StyleOps) : List Byte :=
  [o.cls, o.fg, o.bg, o.up, o.down, o.alert, o.f, o.dirtext, o.und, o.blk, o.dim]
def encodeFontarea (o : FontAreaOps) : List Byte :=
  [o.area, o.enabled] ++ u16Bytes o.start ++ u16Bytes o.mask ++ [o.bank, o.base]
def encodeGlyphs (o : GlyphsOps) : List Byte :=
  [o.bank, o.first, u8 o.glyphs.length] ++ o.glyphs.flatten.flatMap u16Bytes
def encodePage (o : PageOps) : List Byte := [o.id] ++ u16Bytes o.base ++ [o.rows, o.cols]
def encodeUnpage (o : UnpageOps) : List Byte := [o.id]
def encodeText (o : TextOps) : List Byte :=
  [o.id, o.row, o.col, o.fg, o.bg, o.flags, u8 o.codes.length] ++ o.codes.flatMap u16Bytes
def encodeFill (o : FillOps) : List Byte :=
  [o.id, o.top, o.left, o.rows, o.cols] ++ u16Bytes o.code ++ [o.fg, o.bg, o.flags]
def encodeQcells (o : QcellsOps) : List Byte := [o.id, o.row, o.col, o.count]
def encodePane (o : PaneOps) : List Byte :=
  [o.pane, o.kind, o.page, o.srcRow, o.srcCol, o.scrRow, o.scrCol, o.rows, o.cols, o.priority, o.w0, o.w1, o.logic]
def encodeScroll (o : ScrollOps) : List Byte := [o.pane, o.row, o.col]
def encodeClip (o : ClipOps) : List Byte := [o.window, o.top, o.left, o.rows, o.cols]
def encodeCrawl (o : CrawlOps) : List Byte :=
  [o.fg, o.bg] ++ u16Bytes (BitVec.ofNat 16 o.codes.length) ++ o.codes.flatMap u16Bytes
def encodeCrawlctl (o : CrawlctlOps) : List Byte := [o.speed, o.blank, o.clear]
def encodeDefine (o : DefineOps) : List Byte :=
  [o.slot, u8 o.symbol.length] ++ o.symbol ++ [o.scaleKind, o.scaleParam, o.flashStyle] ++ u16Bytes o.stale
def encodeDrop (o : DropOps) : List Byte := [o.slot]
def encodeColumn (c : ColumnOps) : List Byte :=
  [c.source, c.offset, c.width, c.align, c.style, c.sep, c.maxdec, c.compress]
def encodeLayout (o : LayoutOps) : List Byte :=
  [o.layout, u8 o.columns.length] ++ o.columns.flatMap encodeColumn
def encodePlace (o : PlaceOps) : List Byte := [o.slot, o.page, o.row, o.col, o.layout]
def encodeUnplace (o : UnplaceOps) : List Byte := [o.slot, o.index]
def encodePost (o : PostOps) : List Byte :=
  [o.slot, u8 o.pairs.length] ++ o.pairs.flatMap fun p => p.field :: value40Bytes p.value
def encodeLimit (o : LimitOps) : List Byte :=
  [o.slot, o.limit, o.action] ++
    match o.level with
    | some v => value40Bytes v
    | none => []
def encodeAck (o : AckOps) : List Byte := [o.slot, o.limit]
def encodeHold (o : HoldOps) : List Byte := [o.value]
def encodeQslot (o : QslotOps) : List Byte := [o.slot]
def encodeEmpty (_ : NoOps) : List Byte := []
def encodeNote (o : NoteOps) : List Byte := [o.mask]
def encodeLines (o : LinesOps) : List Byte := [o.l0, o.l1, o.l2, o.l3]

/-- The frame that carries a request, for the rows that are requests. -/
def encodeFrame : Instr → Option Frame
  | .format t b => some ⟨0x01, t, b.bytes encodeFormat⟩
  | .mode t b => some ⟨0x02, t, b.bytes encodeMode⟩
  | .screen t b => some ⟨0x03, t, b.bytes encodeScreen⟩
  | .palette t b => some ⟨0x04, t, b.bytes encodePalette⟩
  | .style t b => some ⟨0x05, t, b.bytes encodeStyle⟩
  | .fontarea t b => some ⟨0x06, t, b.bytes encodeFontarea⟩
  | .glyphs t b => some ⟨0x07, t, b.bytes encodeGlyphs⟩
  | .page t b => some ⟨0x10, t, b.bytes encodePage⟩
  | .unpage t b => some ⟨0x11, t, b.bytes encodeUnpage⟩
  | .text t b => some ⟨0x12, t, b.bytes encodeText⟩
  | .fill t b => some ⟨0x13, t, b.bytes encodeFill⟩
  | .qcells t b => some ⟨0x14, t, b.bytes encodeQcells⟩
  | .pane t b => some ⟨0x18, t, b.bytes encodePane⟩
  | .scroll t b => some ⟨0x19, t, b.bytes encodeScroll⟩
  | .clip t b => some ⟨0x1A, t, b.bytes encodeClip⟩
  | .crawl t b => some ⟨0x1B, t, b.bytes encodeCrawl⟩
  | .crawlctl t b => some ⟨0x1C, t, b.bytes encodeCrawlctl⟩
  | .define t b => some ⟨0x20, t, b.bytes encodeDefine⟩
  | .drop t b => some ⟨0x21, t, b.bytes encodeDrop⟩
  | .layout t b => some ⟨0x22, t, b.bytes encodeLayout⟩
  | .place t b => some ⟨0x23, t, b.bytes encodePlace⟩
  | .unplace t b => some ⟨0x24, t, b.bytes encodeUnplace⟩
  | .post t b => some ⟨0x25, t, b.bytes encodePost⟩
  | .limit t b => some ⟨0x26, t, b.bytes encodeLimit⟩
  | .ack t b => some ⟨0x27, t, b.bytes encodeAck⟩
  | .hold t b => some ⟨0x28, t, b.bytes encodeHold⟩
  | .qslot t b => some ⟨0x29, t, b.bytes encodeQslot⟩
  | .status t b => some ⟨0x30, t, b.bytes encodeEmpty⟩
  | .ident t b => some ⟨0x31, t, b.bytes encodeEmpty⟩
  | .note t b => some ⟨0x32, t, b.bytes encodeNote⟩
  | .lines t b => some ⟨0x33, t, b.bytes encodeLines⟩
  | .save t b => some ⟨0x34, t, b.bytes encodeEmpty⟩
  | .reset t b => some ⟨0x3F, t, b.bytes encodeEmpty⟩
  | .unknownKind k t bs => some ⟨k, t, bs⟩
  | .saveCompletion => none
  | .frameStart => none
  | .commitStep => none
  | .scanStart => none
  | .sleepEntry => none
  | .rxdByte _ _ => none
  | .gapTimerExpiry => none
  | .transmitStart _ => none
  | .transmitEnd => none
  | .linePinChange _ _ => none
  | .debounceExpiry _ => none
  | .powerOnReset => none
  | .hardReset => none
  | .rdyRise => none

/-- The command a word of the table spells: none, since spec/opcode_table.json gives no row any bits (log 21). -/
def decodeTableWord (_nbits _w : Nat) : Option Instr := none

end Sys2Proof
end

