-- ==== Sys2Proof/Config.lean ====
section
/-!
DEFINITION. The figures the spec fixes, the factory profile, and the free values of what it leaves open.
-/

namespace Sys2Proof.Config

/-- Cells of the store (R1). -/
def cellCount : Nat := 24576
/-- Page table entries (R3). -/
def pageCount : Nat := 16
/-- Slot records (R16). -/
def slotCount : Nat := 256
/-- Layouts (R26). -/
def layoutCount : Nat := 16
/-- Placement records of the device (R30). -/
def placementPool : Nat := 512
/-- Pending entries the pool can hold (R37). -/
def pendingPool : Nat := 512
/-- Clean frame starts after which OVERLOAD goes off (R53, R54). -/
def cleanFrames : Nat := 64
/-- Budget of a commit (R58). -/
def commitBudget : Nat := 192
/-- Flash table entries (R100). -/
def flashCount : Nat := 128
/-- ARMED and FIRED limits of the device (R110). -/
def limitCount : Nat := 32
/-- Characters of the crawl ring (R133). -/
def ringSize : Nat := 1024
/-- Frames of the input record queue (R174). -/
def inputQueue : Nat := 8
/-- Depth of the input record queue at which RDY falls (R174). -/
def rdyDepth : Nat := 6
/-- Entries of the output queue (R178). -/
def outputQueue : Nat := 48
/-- Replies of the output queue (R175). -/
def replyLimit : Nat := 8
/-- Saturation of the ages, conflation counts, edge counts and the link error count. -/
def countMax : Nat := 65535

/-- FREE VALUE (log 8): the pixel of glyph `g` (0x01–0xFF) of the ROM at row `y`, column `x`, in the 12 × 20 form
(`wide` on) or the 8 × 16 form. R142 gives the glyphs no pattern. -/
opaque romPixel (wide : Bool) (g y x : Nat) : Bool

/-- FREE VALUE (log 5): the order of the stale repaints of one frame start; slots are repainted by rising key. -/
opaque staleKey (choice slot : Nat) : Nat

/-- FREE VALUE (log 6): whether the KEYACK notice of an edge is offered before its LINE notice (R187). -/
opaque keyAckFirst (choice : Nat) : Bool

/-- FREE VALUE (log 7): whether the FRAME notice of a held frame start shows OVERLOAD as the clean count of the
same frame start leaves it. -/
opaque heldAfterClean (choice : Nat) : Bool

/-- FREE VALUE (log 30): a channel of PD (0 red, 1 green, 2 blue) at a place of a line where DE is low while the
controller is awake. R166 and R170 give PD a value there only while asleep. -/
opaque blankingPd (choice frame line place : Nat) (channel : Fin 3) : Byte

/-- The factory palette of R147; entries 16–63 are black like entry 0. -/
def factoryPalette : Table Rgb :=
  [(1, ⟨0, 0, 160⟩), (2, ⟨0, 128, 0⟩), (3, ⟨0, 128, 128⟩), (4, ⟨128, 0, 0⟩), (5, ⟨128, 0, 128⟩),
   (6, ⟨128, 128, 0⟩), (7, ⟨192, 192, 192⟩), (8, ⟨96, 96, 96⟩), (9, ⟨64, 96, 255⟩), (10, ⟨0, 220, 0⟩),
   (11, ⟨0, 224, 224⟩), (12, ⟨240, 32, 32⟩), (13, ⟨240, 0, 240⟩), (14, ⟨255, 224, 0⟩), (15, ⟨255, 255, 255⟩)]

/-- The factory banner "AWAITING FEED" (R191). -/
def factoryBanner : List Byte :=
  [0x41, 0x57, 0x41, 0x49, 0x54, 0x49, 0x4E, 0x47, 0x20, 0x46, 0x45, 0x45, 0x44]

/-- IDENT's family code (R191). -/
def familyCode : Nat := 0x5A
/-- IDENT's part code (R191). -/
def partCode : Nat := 710
/-- IDENT's revision (R191). -/
def revision : Nat := 1
/-- Glyph RAM banks (R191). -/
def ramBanks : Nat := 3

end Sys2Proof.Config
end

