-- ==== Sys2Proof/Machine/State.lean ====
section
/-!
DEFINITION. The state of the controller, block by block, as plain data, and the state after power-on.
-/

namespace Sys2Proof.Machine

/-! ## Cell Store (chapter 01) -/

/-- Cell and style flags UND, BLK, DIM (R1). -/
structure CellFlags where
  und : Bool
  blk : Bool
  dim : Bool
deriving DecidableEq, Repr

/-- A cell record (R1). -/
structure Cell where
  code : Code
  fg : Nat
  bg : Nat
  flags : CellFlags
  ref : Option Nat
  stale : Bool
deriving DecidableEq, Repr

/-- The reset value of every cell (R1). -/
def Cell.blank : Cell := ⟨0x0020, 7, 0, ⟨false, false, false⟩, none, false⟩

/-- A defined page (R3). -/
structure Page where
  base : Nat
  rows : Nat
  cols : Nat
deriving DecidableEq, Repr

/-- The Cell Store: its pages and their cells. -/
structure Cst where
  cells : Table Cell
  pages : Table (Option Page)
deriving DecidableEq, Repr

/-! ## Instrument Table (chapter 02) -/

/-- States of a slot (R17). -/
inductive SlotState where
  | free
  | quiet
  | fresh
  | stale
deriving DecidableEq, Repr

/-- The eight fields (R18). -/
inductive Field where
  | bid
  | ask
  | last
  | bsize
  | asize
  | volume
  | ref
  | time
deriving DecidableEq, Repr

/-- The number of a field (R18). -/
def Field.num : Field → Nat
  | .bid => 0
  | .ask => 1
  | .last => 2
  | .bsize => 3
  | .asize => 4
  | .volume => 5
  | .ref => 6
  | .time => 7

/-- A slot's price convention (R19). -/
inductive Scale where
  | dec (d : Nat)
  | frac (k : Nat)
  | h32
deriving DecidableEq, Repr

/-- Direction of the last change (R16). -/
inductive Direction where
  | none
  | up
  | down
deriving DecidableEq, Repr

/-- Direction and previous value of BID, ASK or LAST (R16). -/
structure Move where
  dir : Direction
  prev : Option Int
deriving DecidableEq, Repr

/-- The move of a field never changed (R16). -/
def Move.still : Move := ⟨.none, none⟩

/-- A placement record (R30). -/
structure Placement where
  page : Nat
  row : Nat
  col : Nat
  layout : Nat
deriving DecidableEq, Repr

/-- The two limits of a slot (R110). -/
inductive Side where
  | high
  | low
deriving DecidableEq, Repr

/-- The state of a limit (R110). -/
inductive Limit where
  | disarmed
  | armed (level : Int)
  | fired (level : Int)
deriving DecidableEq, Repr

/-- A slot record (R16). `values` is keyed by field number, `moves` by the numbers of BID, ASK and LAST; an absent
symbol is the empty list. -/
structure Slot where
  state : SlotState
  symbol : List Byte
  scale : Option Scale
  flashStyle : Nat
  stale : Nat
  age : Nat
  lastTake : Option FrameNo
  values : Table (Option Int)
  moves : Table Move
  placements : List Placement
  high : Limit
  low : Limit
  conflation : Nat
deriving DecidableEq, Repr

/-- The values of a FREE slot (R16). -/
def Slot.empty : Slot := ⟨.free, [], none, 0, 0, 0, none, [], [], [], .disarmed, .disarmed, 0⟩

/-- What a column shows (R26, R27). -/
inductive Source where
  | field (f : Field)
  | chg
  | pct
  | symbol
  | arrow
deriving DecidableEq, Repr

/-- Alignment of a column (R26). -/
inductive Align where
  | left
  | right
deriving DecidableEq, Repr

/-- A column of a layout (R26). -/
structure Column where
  source : Source
  offset : Nat
  width : Nat
  align : Align
  style : Nat
  sep : Bool
  maxdec : Nat
  compress : Bool
deriving DecidableEq, Repr

/-- The Item Table: its slots and its column layouts. -/
structure Itb where
  slots : Table Slot
  layouts : Table (Option (List Column))
deriving DecidableEq, Repr

/-! ## Update Queue (chapter 03) -/

/-- The Update Queue (R37). `pool` is keyed by 8 × slot + field number. -/
structure Upq where
  pool : Table (Option Int)
  dirty : List Nat
  overload : Bool
  clean : Nat
  mark : Bool
deriving DecidableEq, Repr

/-! ## Commit Engine (chapter 04) -/

/-- Whether a commit is running (R56). -/
inductive CommitState where
  | idle
  | committing
deriving DecidableEq, Repr

/-- The Commit Engine (R56). -/
structure Cme where
  state : CommitState
  frame : FrameNo
  budget : Nat
  slotsTaken : Nat
  entriesTaken : Nat
  linkHold : Bool
  frameHold : Bool
deriving DecidableEq, Repr

/-! ## Flash and Alert Unit (chapter 06) -/

/-- Directions a moving flash can have (R100). -/
inductive MoveKind where
  | up
  | down
deriving DecidableEq, Repr

/-- Kind of a flash entry, with the parts an ALERT entry lacks (R100). -/
inductive FlashKind where
  | moving (kind : MoveKind) (length remaining : Nat) (start : FrameNo)
  | alert
deriving DecidableEq, Repr

/-- A span of cells (R102): page, index of the first cell, width. -/
structure Span where
  page : Nat
  cell : Nat
  width : Nat
deriving DecidableEq, Repr

/-- A flash entry in use (R100). -/
structure FlashEntry where
  slot : Nat
  field : Field
  kind : FlashKind
  colour : Nat
  spans : List Span
deriving DecidableEq, Repr

/-- An alert record (R113, R114). -/
structure AlertRec where
  slot : Nat
  side : Side
  level : Int
  value : Int
  frame : FrameNo
deriving DecidableEq, Repr

/-- The flash and alert unit: the flash table, the order of its entries, the alert records. -/
structure Fau where
  flash : Table (Option FlashEntry)
  order : List Nat
  alerts : List AlertRec
deriving DecidableEq, Repr

/-! ## Screen Compositor (chapter 07) -/

/-- Kind of a pane (R121). -/
inductive PaneKind where
  | page
  | crawl
deriving DecidableEq, Repr

/-- Clip mode of a pane for one window (R122). -/
inductive ClipMode where
  | off
  | inside
  | outside
deriving DecidableEq, Repr

/-- How two window cuts combine (R122). -/
inductive Logic where
  | or
  | and
deriving DecidableEq, Repr

/-- A pane record (R121). -/
structure Pane where
  kind : PaneKind
  page : Option Nat
  srcRow : Nat
  srcCol : Nat
  scrRow : Nat
  scrCol : Nat
  rows : Nat
  cols : Nat
  priority : Nat
  w0 : ClipMode
  w1 : ClipMode
  logic : Logic
deriving DecidableEq, Repr

/-- The reset record of a pane (R120). -/
def Pane.hidden : Pane := ⟨.page, none, 0, 0, 0, 0, 1, 1, 0, .off, .off, .or⟩

/-- A clip window record (R122). -/
structure Window where
  top : Nat
  left : Nat
  rows : Nat
  cols : Nat
deriving DecidableEq, Repr

/-- The empty reset window (R120). -/
def Window.empty : Window := ⟨0, 0, 0, 0⟩

/-- One copy of the composition settings: panes and windows (R120). -/
structure Composition where
  panes : Table Pane
  w0 : Window
  w1 : Window
deriving DecidableEq, Repr

/-- Display state (R120). -/
inductive Display where
  | banner
  | panes
deriving DecidableEq, Repr

/-- A crawl character (R133). -/
structure CrawlChar where
  code : Code
  fg : Nat
  bg : Nat
deriving DecidableEq, Repr

/-- The Screen Compositor (R120). `entered` is the model's own: a CRAWL has put text into the empty ring with the lead
at 0, and no step has been made since (R138, row 1; log 29). -/
structure Sco where
  staged : Composition
  active : Composition
  display : Display
  bannerEnd : Bool
  ring : List CrawlChar
  lead : Nat
  offset : Nat
  speed : Nat
  blank : Nat
  entered : Bool
deriving DecidableEq, Repr

/-! ## Glyph and Colour Unit (chapter 08) -/

/-- A font code area (R145). -/
structure FontArea where
  enabled : Bool
  start : U16
  mask : U16
  bank : Nat
  base : Nat
deriving DecidableEq, Repr

/-- The reset record of a font code area (R141). -/
def FontArea.disabled : FontArea := ⟨false, 0, 0, 0, 0⟩

/-- A style class (R148). -/
structure Style where
  fg : Nat
  bg : Nat
  up : Nat
  down : Nat
  alert : Nat
  f : Nat
  dirtext : Bool
  flags : CellFlags
deriving DecidableEq, Repr

/-- The factory class (R148). -/
def Style.factory : Style := ⟨7, 0, 10, 12, 14, 30, true, ⟨false, false, false⟩⟩

/-- Black, the value of the palette entries the factory palette does not list (R147). -/
def black : Rgb := ⟨0, 0, 0⟩

/-- The Glyph and Colour Unit (R141). `glyphs` is keyed by (256 × bank + glyph) × 20 + row. -/
structure Gcu where
  glyphs : Table GlyphRow
  areas : Table FontArea
  palette : Table Rgb
  styles : Table Style
  back : Nat
  dim : Nat
  banner : List Byte
deriving DecidableEq, Repr

/-! ## Display Timing Generator (chapter 09) -/

/-- Display formats (R159). -/
inductive Format where
  | f0
  | f1
  | f2
  | f3
deriving DecidableEq, Repr

/-- Area mode (R158): the whole screen, or the rows first to last. -/
inductive Area where
  | full
  | band (first last : Nat)
deriving DecidableEq, Repr

/-- Colour mode (R158). -/
inductive ColourMode where
  | full
  | reduced
deriving DecidableEq, Repr

/-- Power mode (R158). -/
inductive Power where
  | awake
  | asleep
deriving DecidableEq, Repr

/-- Where the frame stands (R158). -/
inductive Phase where
  | blank
  | scan
deriving DecidableEq, Repr

/-- The Display Timing Generator (R158). `restart` is on from a reset or a wake to the frame start that follows it
(R168, R169; log 10). -/
structure Dtg where
  activeFormat : Format
  stagedFormat : Format
  activeArea : Area
  stagedArea : Area
  activeColour : ColourMode
  stagedColour : ColourMode
  power : Power
  stagedPower : Power
  counter : FrameNo
  phase : Phase
  restart : Bool
deriving DecidableEq, Repr

/-! ## Line Unit and Profile Store (chapter 11) -/

/-- Functions of a local line (R186). -/
inductive LineFunc where
  | input
  | ack
  | hold
  | lamp
  | out0
  | out1
deriving DecidableEq, Repr

/-- A local line (R186, R187): its function, the level put on the pin from outside, the debounced level, the edge
count, and whether the 5 ms debounce timer runs. -/
structure Line where
  func : LineFunc
  pin : Level
  level : Level
  edges : Nat
  timer : Bool
deriving DecidableEq, Repr

/-- A line after reset with its pin high (R186; log 11). -/
def Line.idle : Line := ⟨.input, .high, .high, 0, false⟩

/-- The local lines (chapter 11): one record for each line. -/
structure Lnu where
  lines : Table Line
deriving DecidableEq, Repr

/-- The data of a profile (R189). -/
structure Profile where
  format : Format
  palette : Table Rgb
  styles : Table Style
  back : Nat
  dim : Nat
  banner : List Byte
deriving DecidableEq, Repr

/-- The factory profile (R191). -/
def Profile.factory : Profile := ⟨.f1, Config.factoryPalette, [], 0, 96, Config.factoryBanner⟩

/-- A generation (R189): its claim mark, and its data once the done mark is set (log 16). -/
structure Generation where
  claimed : Bool
  done : Option Profile
deriving DecidableEq, Repr

/-- A generation as delivered (R189). -/
def Generation.unused : Generation := ⟨false, none⟩

/-- The programming state PROGRAMMING (R189): the generation, the SAVE's tag, the data copied. -/
structure Programming where
  generation : Nat
  tag : Byte
  data : Profile
deriving DecidableEq, Repr

/-- The profile store (R189): its generations and the one being programmed. -/
structure Pst where
  gens : Table Generation
  programming : Option Programming
  loaded : Nat
deriving DecidableEq, Repr

/-! ## Feed Link Interface (chapter 10) -/

/-- Receiver states (R172). -/
inductive RxState where
  | hunt
  | length1
  | length2
  | payload
  | check
deriving DecidableEq, Repr

/-- The notice mask (R181). -/
structure NoticeMask where
  alert : Bool
  frame : Bool
  line : Bool
deriving DecidableEq, Repr

/-- The start of the RDY pin after power-on or hard reset (R193): low until frame start 1, low for 2 ms more, then
following the input record queue. -/
inductive RdyStart where
  | waitFrame
  | timing
  | following
deriving DecidableEq, Repr

/-- Status codes (00). -/
inductive Status where
  | ok
  | unknownKind
  | badLength
  | badValue
  | noSlot
  | noPage
  | noLayout
  | inUse
  | overlap
  | duplicate
  | full
  | pendingFull
  | notFired
  | fired
  | busy
  | storeFull
  | asleep
  | range
deriving DecidableEq, Repr

/-- The flags of a reply (R177). -/
structure ReplyFlags where
  overrun : Bool
  nlost : Bool
  overload : Bool
  hold : Bool
  alerts : Bool
deriving DecidableEq, Repr

/-- The items of the STATUS body (R182, R185). -/
structure StatusBody where
  counter : FrameNo
  phase : Phase
  format : Format
  area : Area
  colour : ColourMode
  power : Power
  linkHold : Bool
  keyHold : Bool
  overload : Bool
  clean : Nat
  pending : Nat
  dirty : Nat
  flashes : Nat
  alerts : Nat
  limits : Nat
  ring : Nat
  inputDepth : Nat
  linkErrors : Nat
  saving : Bool
deriving DecidableEq, Repr

/-- The body of a reply, item by item as R185 lists it. -/
inductive ReplyBody where
  | empty
  | power (p : Power)
  | dropped (entries alerts : Nat)
  | extent (n : Nat)
  | index (n : Nat)
  | merged (n : Nat)
  | limit (l : Limit) (count : Nat)
  | left (n : Nat)
  | holds (link key : Bool)
  | ring (n : Nat)
  | cells (cs : List Cell)
  | slot (r : Slot) (fields : List Nat) (position : Option Nat)
  | status (b : StatusBody)
  | ident (claimed loaded : Nat)
  | mask (m : NoticeMask)
  | lines (ls : List (LineFunc × Level × Nat))
  | generation (n : Nat)
deriving DecidableEq, Repr

/-- Events of an ALERT notice (R114). -/
inductive AlertEvent where
  | fired
  | keyack
deriving DecidableEq, Repr

/-- A LINE notice (R188). -/
structure LineNotice where
  line : Nat
  func : LineFunc
  level : Level
  edges : Nat
  count : Nat
deriving DecidableEq, Repr

/-- An entry of the output queue (R178): a reply (R176) or a notice (R68, R114, R188). -/
inductive OutEntry where
  | reply (kind tag : Byte) (status : Status) (flags : ReplyFlags) (body : ReplyBody)
  | alert (event : AlertEvent) (symbol : List Byte) (record : AlertRec) (left : Nat)
  | frame (number : FrameNo) (slots entries left dirty : Nat) (overload held : Bool)
  | line (n : LineNotice)
deriving DecidableEq, Repr

/-- The Feed Link Interface (chapter 10). `kept` holds the bytes received since the start byte of the frame in
progress, `sending` the bytes of the frame whose sending has begun. -/
structure Fli where
  rxState : RxState
  kept : List Byte
  gapTimer : Bool
  inQ : List Frame
  outQ : List OutEntry
  sending : Option (List Byte)
  reserved : Nat
  linkErrors : Nat
  overrun : Bool
  nlost : Bool
  mask : NoticeMask
  hrdy : Level
  rdyStart : RdyStart
deriving DecidableEq, Repr

/-! ## The machine -/

/-- The state: the model's queue of waiting commands and its count of free choices drawn (log 1, log 23), and the
state of each block. -/
structure State where
  pending : List Instr
  choices : Nat
  fli : Fli
  cst : Cst
  itb : Itb
  upq : Upq
  cme : Cme
  fau : Fau
  sco : Sco
  gcu : Gcu
  dtg : Dtg
  lnu : Lnu
  pst : Pst
deriving DecidableEq, Repr

/-- The spec gives the block no fault: it answers a bad request with a status code, and counts or flags what it
discards. So no command faults. -/
inductive Fault where
deriving DecidableEq, Repr

/-- Reasons a command has no meaning. -/
inductive Refusal where
  /-- Raised by `exec` for a command that has no meaning yet; none is left. Safe: nothing is claimed of it. -/
  | notModelled (mnemonic : String)
deriving DecidableEq, Repr

/-! ## Reset values -/

/-- The Feed Link Interface after power-on (R183, R193). -/
def Fli.reset : Fli where
  rxState := .hunt
  kept := []
  gapTimer := false
  inQ := []
  outQ := []
  sending := none
  reserved := 0
  linkErrors := 0
  overrun := false
  nlost := false
  mask := ⟨true, false, false⟩
  hrdy := .high
  rdyStart := .waitFrame

/-- The cell store after any reset (R1, R3). -/
def Cst.reset : Cst := ⟨[], []⟩

/-- The instrument table after any reset (R16, R26). -/
def Itb.reset : Itb := ⟨[], []⟩

/-- The update queue after any reset (R37). -/
def Upq.reset : Upq := ⟨[], [], false, 0, false⟩

/-- The commit engine after any reset (R56). -/
def Cme.reset : Cme := ⟨.idle, 0, 0, 0, 0, false, false⟩

/-- The flash and alert unit after any reset (R100, R114). -/
def Fau.reset : Fau := ⟨[], [], []⟩

/-- The compositor after any reset (R120). -/
def Sco.reset : Sco where
  staged := ⟨[], .empty, .empty⟩
  active := ⟨[], .empty, .empty⟩
  display := .banner
  bannerEnd := false
  ring := []
  lead := 0
  offset := 0
  speed := 1
  blank := 0
  entered := false

/-- The glyph and colour unit after a reset that finds the glyph RAM `glyphs` and loads `p` (R141). -/
def Gcu.reset (glyphs : Table GlyphRow) (p : Profile) : Gcu where
  glyphs := glyphs
  areas := []
  palette := p.palette
  styles := p.styles
  back := p.back
  dim := p.dim
  banner := p.banner

/-- The display timing generator after a reset that loads a profile of format `f` (R158, R169). -/
def Dtg.reset (f : Format) : Dtg where
  activeFormat := f
  stagedFormat := f
  activeArea := .full
  stagedArea := .full
  activeColour := .full
  stagedColour := .full
  power := .awake
  stagedPower := .awake
  counter := 0
  phase := .blank
  restart := true

/-- The controller right after the first power-on of a part as delivered (R189, R192, R193), no command waiting, the
input pins high (log 11). -/
def State.reset : State where
  pending := []
  choices := 0
  fli := .reset
  cst := .reset
  itb := .reset
  upq := .reset
  cme := .reset
  fau := .reset
  sco := .reset
  gcu := .reset [] .factory
  dtg := .reset .f1
  lnu := ⟨[]⟩
  pst := ⟨[], none, 0⟩

end Sys2Proof.Machine
end

