-- ==== Sys2Proof/Machine/Ops.lean ====
section
/-!
DEFINITION. The named operations over the tables, the blocks' registers and the feed link's queues that the
meanings share.
-/

namespace Sys2Proof

/-! ## Tables -/

/-- The record of number `k`; `d` is what an unlisted number reads as. -/
def Table.get {β : Type} (d : β) : Table β → Nat → β
  | [], _ => d
  | (i, v) :: rest, k => if i = k then v else Table.get d rest k

/-- The entries that `vs` make from number `a` on; a record equal to `d` makes none. -/
def Table.numbered {β : Type} [DecidableEq β] (d : β) : Nat → List β → Table β
  | _, [] => []
  | a, v :: vs => if v = d then Table.numbered d (a + 1) vs else (a, v) :: Table.numbered d (a + 1) vs

/-- The table with the records `vs` at numbers `a`, `a + 1`, …. -/
def Table.writeRun {β : Type} [DecidableEq β] (d : β) (t : Table β) (a : Nat) (vs : List β) : Table β :=
  t.filter (fun e => e.1 < a) ++ (Table.numbered d a vs ++ t.filter (fun e => a + vs.length ≤ e.1))

/-- The table with record `v` at number `k`. -/
def Table.set {β : Type} [DecidableEq β] (d : β) (t : Table β) (k : Nat) (v : β) : Table β :=
  Table.writeRun d t k [v]

/-- The table with the `n` records from number `a` on at the default. -/
def Table.clearRun {β : Type} (t : Table β) (a n : Nat) : Table β :=
  t.filter fun e => e.1 < a || a + n ≤ e.1

/-- The table with every listed record `v` of number `k` replaced by `f k v`; `f` keeps the default. -/
def Table.adjust {β : Type} [DecidableEq β] (d : β) (f : Nat → β → β) (t : Table β) : Table β :=
  (t.map fun e => (e.1, f e.1 e.2)).filter fun e => e.2 ≠ d

/-- The canonical form: keys strictly rising, no entry at the default. -/
def Table.wf {β : Type} [DecidableEq β] (d : β) : Table β → Bool
  | [] => true
  | [(_, v)] => v ≠ d
  | (i, v) :: (j, w) :: rest => v ≠ d && decide (i < j) && Table.wf d ((j, w) :: rest)

namespace Machine

/-! ## Reading the blocks -/

/-- Cell `k` of the store (R1). -/
def State.cell (s : State) (k : Nat) : Cell := Table.get .blank s.cst.cells k

/-- The page table entry of id `i` (R3). -/
def State.page (s : State) (i : Nat) : Option Page := Table.get none s.cst.pages i

/-- Slot record `n` (R16). -/
def State.slot (s : State) (n : Nat) : Slot := Table.get .empty s.itb.slots n

/-- The columns of layout `l`, if it is defined (R26). -/
def State.layout (s : State) (l : Nat) : Option (List Column) := Table.get none s.itb.layouts l

/-- The number under which the pending pool holds slot `n`, field `f`. -/
def poolKey (n f : Nat) : Nat := 8 * n + f

/-- The pending value of slot `n`, field number `f` (R38). -/
def State.pendingValue (s : State) (n f : Nat) : Option Int := Table.get none s.upq.pool (poolKey n f)

/-- Flash table entry `i` (R100). -/
def State.flashEntry (s : State) (i : Nat) : Option FlashEntry := Table.get none s.fau.flash i

/-- Style class `c` (R148). -/
def State.style (s : State) (c : Nat) : Style := Table.get .factory s.gcu.styles c

/-- Palette entry `i` (R147). -/
def State.colour (s : State) (i : Nat) : Rgb := Table.get black s.gcu.palette i

/-- Font code area `a` (R145). -/
def State.area (s : State) (a : Nat) : FontArea := Table.get .disabled s.gcu.areas a

/-- The number under which the glyph RAM holds a row of a glyph of a bank (R142). -/
def glyphKey (bank glyph row : Nat) : Nat := (256 * bank + glyph) * 20 + row

/-- Row `row` of RAM glyph `glyph` of bank `bank` (R142). -/
def State.glyphRow (s : State) (bank glyph row : Nat) : GlyphRow :=
  Table.get 0 s.gcu.glyphs (glyphKey bank glyph row)

/-- Local line `l` (R186). -/
def State.line (s : State) (l : Nat) : Line := Table.get .idle s.lnu.lines l

/-- Generation `g` of the profile store (R189). -/
def State.gen (s : State) (g : Nat) : Generation := Table.get .unused s.pst.gens g

/-- Pane `p` of a copy of the composition (R121). -/
def Composition.pane (c : Composition) (p : Nat) : Pane := Table.get .hidden c.panes p

/-- Committed value of a field (R18). -/
def Slot.value (r : Slot) (f : Field) : Option Int := Table.get none r.values f.num

/-- Direction and previous value of a field (R16). -/
def Slot.move (r : Slot) (f : Field) : Move := Table.get .still r.moves f.num

/-- A limit of a slot (R110). -/
def Slot.limit (r : Slot) : Side → Limit
  | .high => r.high
  | .low => r.low

/-- A slot is defined in every state but FREE (R17). -/
def Slot.defined (r : Slot) : Bool := r.state != .free

/-! ## Writing the blocks -/

def State.setCells (s : State) (t : Table Cell) : State := { s with cst := { s.cst with cells := t } }

def State.setPages (s : State) (t : Table (Option Page)) : State := { s with cst := { s.cst with pages := t } }

def State.setSlots (s : State) (t : Table Slot) : State := { s with itb := { s.itb with slots := t } }

def State.setLayouts (s : State) (t : Table (Option (List Column))) : State :=
  { s with itb := { s.itb with layouts := t } }

def State.setFli (s : State) (f : Fli) : State := { s with fli := f }

def State.setUpq (s : State) (u : Upq) : State := { s with upq := u }

def State.setCme (s : State) (c : Cme) : State := { s with cme := c }

def State.setFau (s : State) (f : Fau) : State := { s with fau := f }

def State.setSco (s : State) (c : Sco) : State := { s with sco := c }

def State.setGcu (s : State) (g : Gcu) : State := { s with gcu := g }

def State.setDtg (s : State) (d : Dtg) : State := { s with dtg := d }

def State.setLines (s : State) (t : Table Line) : State := { s with lnu := ⟨t⟩ }

def State.setPst (s : State) (p : Pst) : State := { s with pst := p }

/-- The state with a free choice drawn (log 23). -/
def State.draw (s : State) : State := { s with choices := s.choices + 1 }

/-- The state with slot record `n` replaced. -/
def State.setSlot (s : State) (n : Nat) (r : Slot) : State := s.setSlots (Table.set .empty s.itb.slots n r)

/-- A run of cells written from index `a` on, as one action at the cell store (R2). -/
def State.writeCells (s : State) (a : Nat) (cs : List Cell) : State :=
  s.setCells (Table.writeRun .blank s.cst.cells a cs)

/-- The record with limit `side` replaced. -/
def Slot.setLimit (r : Slot) (side : Side) (l : Limit) : Slot :=
  match side with
  | .high => { r with high := l }
  | .low => { r with low := l }

/-- A limit that counts for the device limit: ARMED or FIRED (R110). -/
def Limit.counts : Limit → Bool
  | .disarmed => false
  | .armed _ => true
  | .fired _ => true

/-- A FIRED limit (R110). -/
def Limit.isFired : Limit → Bool
  | .fired _ => true
  | .disarmed => false
  | .armed _ => false

/-- How many of a slot's limits are ARMED or FIRED (R110). -/
def Slot.limitCount (r : Slot) : Nat := r.high.counts.toNat + r.low.counts.toNat

/-- The device count of limits ARMED or FIRED (R110). -/
def State.limitCount (s : State) : Nat := (s.itb.slots.map fun e => e.2.limitCount).sum

/-- Placement records in use (R30). -/
def State.placementsUsed (s : State) : Nat := (s.itb.slots.map fun e => e.2.placements.length).sum

/-- The slots with their numbers, the FREE ones left out. -/
def State.definedSlots (s : State) : List (Nat × Slot) := s.itb.slots.filter fun e => e.2.defined

/-- Some placement of some slot satisfies `p`. -/
def State.anyPlacement (s : State) (p : Placement → Bool) : Bool :=
  s.itb.slots.any fun e => e.2.placements.any p

/-! ## Display formats (R159) -/

/-- Width of a character cell in pixels. -/
def Format.cellW : Format → Nat
  | .f0 => 8
  | .f1 => 8
  | .f2 => 8
  | .f3 => 12

/-- Height of a character cell in pixels. -/
def Format.cellH : Format → Nat
  | .f0 => 16
  | .f1 => 16
  | .f2 => 16
  | .f3 => 20

/-- Columns of the screen grid. -/
def Format.gridCols : Format → Nat
  | .f0 => 80
  | .f1 => 128
  | .f2 => 160
  | .f3 => 160

/-- Rows of the screen grid. -/
def Format.gridRows : Format → Nat
  | .f0 => 30
  | .f1 => 48
  | .f2 => 64
  | .f3 => 54

/-- Width of the picture in pixels. -/
def Format.pixelW : Format → Nat
  | .f0 => 640
  | .f1 => 1024
  | .f2 => 1280
  | .f3 => 1920

/-- Height of the picture in pixels. -/
def Format.pixelH : Format → Nat
  | .f0 => 480
  | .f1 => 768
  | .f2 => 1024
  | .f3 => 1080

/-- Lines per frame. -/
def Format.lines : Format → Nat
  | .f0 => 525
  | .f1 => 806
  | .f2 => 1066
  | .f3 => 1125

/-- Blank lines per frame. -/
def Format.blankLines : Format → Nat
  | .f0 => 45
  | .f1 => 38
  | .f2 => 42
  | .f3 => 45

/-- Pixel clock in kHz. -/
def Format.pixelClock : Format → Nat
  | .f0 => 25200
  | .f1 => 65000
  | .f2 => 108000
  | .f3 => 148500

/-- The blink phase (R163): on while the frame counter mod 64 is less than 32. -/
def State.blink (s : State) : Bool := s.dtg.counter.toNat % 64 < 32

/-! ## Hold and local lines -/

/-- Functions of an input line (R186). -/
def LineFunc.isInput : LineFunc → Bool
  | .input => true
  | .ack => true
  | .hold => true
  | .lamp => false
  | .out0 => false
  | .out1 => false

/-- The key hold (R72): some line whose function is HOLD stands low. -/
def State.keyHold (s : State) : Bool :=
  (List.range 4).any fun l => (s.line l).func == .hold && (s.line l).level == .low

/-- The hold state (R56): the link hold or the key hold. -/
def State.held (s : State) : Bool := s.cme.linkHold || s.keyHold

/-- The level the alert queue calls for on a LAMP line (R118). -/
def State.lampLevel (s : State) : Level := if s.fau.alerts.isEmpty then .high else .low

/-- The level of a line (R186): debounced for an input function, driven for an output function. -/
def State.lineLevel (s : State) (l : Nat) : Level :=
  match (s.line l).func with
  | .input => (s.line l).level
  | .ack => (s.line l).level
  | .hold => (s.line l).level
  | .lamp => s.lampLevel
  | .out0 => .low
  | .out1 => .high

/-! ## The output queue (R175 to R180) -/

/-- An entry that is a reply. -/
def OutEntry.isReply : OutEntry → Bool
  | .reply .. => true
  | .alert .. => false
  | .frame .. => false
  | .line _ => false

/-- Replies waiting in the output queue. -/
def Fli.replies (f : Fli) : Nat := f.outQ.countP OutEntry.isReply

/-- The two conditions under which the head of the input record queue is taken (R175). -/
def Fli.roomToTake (f : Fli) : Bool :=
  decide (f.replies + f.reserved < Config.replyLimit) && decide (f.outQ.length + f.reserved < Config.outputQueue)

/-- The flags of a reply built now (R177). -/
def State.replyFlags (s : State) : ReplyFlags where
  overrun := s.fli.overrun
  nlost := s.fli.nlost
  overload := s.upq.overload
  hold := s.held
  alerts := !s.fau.alerts.isEmpty

/-- The kind of the reply to a request kind (R176). -/
def replyKind (kind : Byte) : Byte :=
  if kind = 0 ∨ 0x40 ≤ kind.toNat then 0xFF else 0x80 + kind

/-- A reply built with the flags as they stand and appended to the output queue, which clears OVERRUN and NLOST
(R175, R177). -/
def State.reply (s : State) (kind tag : Byte) (st : Status) (body : ReplyBody) : State :=
  s.setFli { s.fli with
    outQ := s.fli.outQ ++ [.reply kind tag st s.replyFlags body]
    overrun := false
    nlost := false }

/-- A notice offered to the output queue: appended while a place is free, else discarded with NLOST (R178). -/
def State.offer (s : State) (n : OutEntry) : State :=
  if s.fli.outQ.length + s.fli.reserved < Config.outputQueue then
    s.setFli { s.fli with outQ := s.fli.outQ ++ [n] }
  else
    s.setFli { s.fli with nlost := true }

/-- The RDY pin (R174, R193). -/
def State.rdy (s : State) : Level :=
  if s.fli.rdyStart = .following ∧ s.fli.inQ.length < Config.rdyDepth then .high else .low

/-! ## Taking requests (R174 to R176) -/

/-- A good frame joins the input record queue, or is discarded with OVERRUN (R174). -/
def Fli.arrive (f : Fli) (g : Frame) : Fli :=
  if f.inQ.length < Config.inputQueue then { f with inQ := f.inQ ++ [g] } else { f with overrun := true }

/-- What a request leaves: the state, and the status and body of its reply, none for an accepted SAVE (R175). -/
structure Answer where
  state : State
  reply : Option (Status × ReplyBody)

/-- A request refused with a status and no change of state. -/
def refuse (st : Status) (s : State) : Answer := ⟨s, some (st, .empty)⟩

/-- A request accepted with a body. -/
def accept (body : ReplyBody) (s : State) : Answer := ⟨s, some (.ok, body)⟩

/-- The reply of an answer queued (R175). -/
def Answer.finish (a : Answer) (f : Frame) : State :=
  match a.reply with
  | some (st, body) => a.state.reply (replyKind f.kind) f.tag st body
  | none => a.state

/-- The state with the head of the input record queue taken off. -/
def State.dropHead (s : State) : State := s.setFli { s.fli with inQ := s.fli.inQ.tail }

/-- Whether the request `f` can be taken now: R175's two conditions hold, and the frame is at the head of the input
record queue, or the queue is empty and the frame is completed and taken at once (log 2). -/
def State.canTake (s : State) (f : Frame) : Bool :=
  s.fli.roomToTake && (s.fli.inQ.isEmpty || s.fli.inQ.head? == some f)

/-- The step of a request (R175; log 2): it is taken where it can be; a frame that cannot be taken yet waits at the
head of the input record queue, or joins it behind the frames that wait (R174). -/
def State.serve (s : State) (f : Frame) (act : State → Answer) : Host.Outcome State Fault Refusal :=
  if s.canTake f then .next ((act s.dropHead).finish f)
  else if s.fli.inQ.head? = some f then .next s
  else .next (s.setFli (s.fli.arrive f))

/-- The fields of a request whose body has the required length; else BAD_LENGTH. -/
def withOps {α : Type} (b : Body α) (act : α → State → Answer) (s : State) : Answer :=
  match b with
  | .ops o => act o s
  | .malformed _ => refuse .badLength s

end Machine

end Sys2Proof
end

