-- ==== Sys2Proof/Machine/Operands.lean ====
section
/-!
DEFINITION. The operand forms of the requests: the choices of R184, each numbered from 0 in the order the manual
lists its values, and the range checks the requests share. A byte beyond the last value of a choice has none.
-/

namespace Sys2Proof.Machine

/-- OFF 0, ON 1. -/
def onOff? (b : Byte) : Option Bool :=
  match b.toNat with
  | 0 => some false
  | 1 => some true
  | _ => none

/-- F0 0 to F3 3. -/
def Format.ofByte? (b : Byte) : Option Format :=
  match b.toNat with
  | 0 => some .f0
  | 1 => some .f1
  | 2 => some .f2
  | 3 => some .f3
  | _ => none

/-- FULL 0, REDUCED 1. -/
def ColourMode.ofByte? (b : Byte) : Option ColourMode :=
  match b.toNat with
  | 0 => some .full
  | 1 => some .reduced
  | _ => none

/-- AWAKE 0, ASLEEP 1. -/
def Power.ofByte? (b : Byte) : Option Power :=
  match b.toNat with
  | 0 => some .awake
  | 1 => some .asleep
  | _ => none

/-- FULL 0, PARTIAL 1 with the two rows; for PARTIAL the rows are 0–63 and first is not greater than last, for FULL
they are neither checked nor kept (R164). -/
def Area.ofBytes? (a first last : Byte) : Option Area :=
  match a.toNat with
  | 0 => some .full
  | 1 => if last.toNat ≤ 63 ∧ first.toNat ≤ last.toNat then some (.band first.toNat last.toNat) else none
  | _ => none

/-- PAGE 0, CRAWL 1. -/
def PaneKind.ofByte? (b : Byte) : Option PaneKind :=
  match b.toNat with
  | 0 => some .page
  | 1 => some .crawl
  | _ => none

/-- OFF 0, INSIDE 1, OUTSIDE 2. -/
def ClipMode.ofByte? (b : Byte) : Option ClipMode :=
  match b.toNat with
  | 0 => some .off
  | 1 => some .inside
  | 2 => some .outside
  | _ => none

/-- OR 0, AND 1. -/
def Logic.ofByte? (b : Byte) : Option Logic :=
  match b.toNat with
  | 0 => some .or
  | 1 => some .and
  | _ => none

/-- BID 0 to TIME 7 (R18). -/
def Field.ofNat? : Nat → Option Field
  | 0 => some .bid
  | 1 => some .ask
  | 2 => some .last
  | 3 => some .bsize
  | 4 => some .asize
  | 5 => some .volume
  | 6 => some .ref
  | 7 => some .time
  | _ => none

/-- BID 0 to ARROW 11 (R184): the eight fields, CHG, PCT, SYMBOL, ARROW. -/
def Source.ofByte? (b : Byte) : Option Source :=
  match b.toNat with
  | 8 => some .chg
  | 9 => some .pct
  | 10 => some .symbol
  | 11 => some .arrow
  | n => (Field.ofNat? n).map .field

/-- LEFT 0, RIGHT 1. -/
def Align.ofByte? (b : Byte) : Option Align :=
  match b.toNat with
  | 0 => some .left
  | 1 => some .right
  | _ => none

/-- HIGH 0, LOW 1. -/
def Side.ofByte? (b : Byte) : Option Side :=
  match b.toNat with
  | 0 => some .high
  | 1 => some .low
  | _ => none

/-- IN 0, ACK 1, HOLD 2, LAMP 3, OUT0 4, OUT1 5. -/
def LineFunc.ofByte? (b : Byte) : Option LineFunc :=
  match b.toNat with
  | 0 => some .input
  | 1 => some .ack
  | 2 => some .hold
  | 3 => some .lamp
  | 4 => some .out0
  | 5 => some .out1
  | _ => none

/-- DEC 0 with d 0–6, FRAC 1 with k 1–8, H32 2 with its parameter not checked (R21, R185). -/
def Scale.ofBytes? (kind param : Byte) : Option Scale :=
  match kind.toNat with
  | 0 => if param.toNat ≤ 6 then some (.dec param.toNat) else none
  | 1 => if 1 ≤ param.toNat ∧ param.toNat ≤ 8 then some (.frac param.toNat) else none
  | 2 => some .h32
  | _ => none

/-- The cell flags byte: UND, BLK, DIM at bits 0 to 2, the other bits 0 (R184). -/
def CellFlags.ofByte? (b : Byte) : Option CellFlags :=
  if b.toNat < 8 then some ⟨b.getLsbD 0, b.getLsbD 1, b.getLsbD 2⟩ else none

/-- The notice mask byte: ALERT, FRAME, LINE at bits 0 to 2, the other bits 0 (R181, R184). -/
def NoticeMask.ofByte? (b : Byte) : Option NoticeMask :=
  if b.toNat < 8 then some ⟨b.getLsbD 0, b.getLsbD 1, b.getLsbD 2⟩ else none

/-- A palette index, 0–63. -/
def paletteIndex? (b : Byte) : Option Nat := if b.toNat < 64 then some b.toNat else none

/-- A byte at most `n`. -/
def upTo? (n : Nat) (b : Byte) : Option Nat := if b.toNat ≤ n then some b.toNat else none

/-- A byte from `lo` to `hi`. -/
def between? (lo hi : Nat) (b : Byte) : Option Nat :=
  if lo ≤ b.toNat ∧ b.toNat ≤ hi then some b.toNat else none

/-- A character of a symbol or of the banner: 0x20–0x7E (R20, R150). -/
def printable (b : Byte) : Bool := decide (0x20 ≤ b.toNat) && decide (b.toNat ≤ 0x7E)

/-- The range of a field's value (R18, R41). A price has every value the 40-bit field carries. -/
def Field.inRange (f : Field) (v : Int) : Bool :=
  match f with
  | .bid => true
  | .ask => true
  | .last => true
  | .ref => true
  | .bsize => decide (0 ≤ v) && decide (v ≤ 4294967295)
  | .asize => decide (0 ≤ v) && decide (v ≤ 4294967295)
  | .volume => decide (0 ≤ v) && decide (v ≤ 4294967295)
  | .time =>
    decide (0 ≤ v) && decide (v ≤ 235959) && decide (v / 10000 ≤ 23) && decide (v / 100 % 100 ≤ 59) &&
      decide (v % 100 ≤ 59)

end Sys2Proof.Machine
end

