-- ==== Sys2Proof/Machine/Flags.lean ====
section
/-!
DEFINITION. The flags and choices as the bytes of replies and notices carry them (R177, R184).
-/

namespace Sys2Proof.Machine

/-- A byte whose bits 0 to 4 are the flags given. -/
def bits (a b c d e : Bool) : Byte :=
  u8 (a.toNat + 2 * b.toNat + 4 * c.toNat + 8 * d.toNat + 16 * e.toNat)

/-- The flags byte of a reply: OVERRUN, NLOST, OVERLOAD, HOLD, ALERTS (R184). -/
def ReplyFlags.byte (f : ReplyFlags) : Byte := bits f.overrun f.nlost f.overload f.hold f.alerts

/-- The cell flags byte: UND, BLK, DIM (R184). -/
def CellFlags.byte (f : CellFlags) : Byte := bits f.und f.blk f.dim false false

/-- The notice mask byte: ALERT, FRAME, LINE (R184). -/
def NoticeMask.byte (m : NoticeMask) : Byte := bits m.alert m.frame m.line false false

/-- OFF 0, ON 1. -/
def onOffByte (b : Bool) : Byte := if b then 1 else 0

/-- The status codes of the opening file. -/
def Status.byte : Status → Byte
  | .ok => 0x00
  | .unknownKind => 0x01
  | .badLength => 0x02
  | .badValue => 0x03
  | .noSlot => 0x04
  | .noPage => 0x05
  | .noLayout => 0x06
  | .inUse => 0x07
  | .overlap => 0x08
  | .duplicate => 0x09
  | .full => 0x0A
  | .pendingFull => 0x0B
  | .notFired => 0x0C
  | .fired => 0x0D
  | .busy => 0x0E
  | .storeFull => 0x0F
  | .asleep => 0x10
  | .range => 0x11

def Format.byte : Format → Byte
  | .f0 => 0
  | .f1 => 1
  | .f2 => 2
  | .f3 => 3

/-- Area choice, first row and last row, the rows 0 for FULL (R185). -/
def Area.bytes : Area → List Byte
  | .full => [0, 0, 0]
  | .band first last => [1, u8 first, u8 last]

def ColourMode.byte : ColourMode → Byte
  | .full => 0
  | .reduced => 1

def Power.byte : Power → Byte
  | .awake => 0
  | .asleep => 1

def Phase.byte : Phase → Byte
  | .blank => 0
  | .scan => 1

/-- low 0, high 1 (R185). -/
def levelByte : Level → Byte
  | .low => 0
  | .high => 1

def LineFunc.byte : LineFunc → Byte
  | .input => 0
  | .ack => 1
  | .hold => 2
  | .lamp => 3
  | .out0 => 4
  | .out1 => 5

def SlotState.byte : SlotState → Byte
  | .free => 0
  | .quiet => 1
  | .fresh => 2
  | .stale => 3

def Direction.byte : Direction → Byte
  | .none => 0
  | .up => 1
  | .down => 2

def Side.byte : Side → Byte
  | .high => 0
  | .low => 1

def AlertEvent.byte : AlertEvent → Byte
  | .fired => 0
  | .keyack => 1

/-- DISARMED 0, ARMED 1, FIRED 2 (R185). -/
def Limit.byte : Limit → Byte
  | .disarmed => 0
  | .armed _ => 1
  | .fired _ => 2

/-- The level of a limit, 0 when DISARMED (R185). -/
def Limit.level : Limit → Int
  | .disarmed => 0
  | .armed l => l
  | .fired l => l

end Sys2Proof.Machine
end

