-- ==== Sys2Proof/Machine/Records.lean ====
section
/-!
DEFINITION. The bytes of replies and notices (R171, R176, R184, R185): the payload of an entry of the output queue and
the frame that carries it.
-/

namespace Sys2Proof.Machine

/-- A number as a `u16`. -/
def u16 (n : Nat) : List Byte := u16Bytes (BitVec.ofNat 16 n)

/-- A signed number as a `value40`. -/
def signed40 (v : Int) : List Byte := value40Bytes (BitVec.ofInt 40 v)

/-- A value that may be absent, with its presence byte (R185). -/
def presence40 : Option Int → List Byte
  | some v => 1 :: signed40 v
  | none => 0 :: signed40 0

/-- A frame number that may be absent, with its presence byte (R185). -/
def presenceFrame : Option FrameNo → List Byte
  | some n => 1 :: u32Bytes n
  | none => 0 :: u32Bytes 0

/-- A symbol: its count and its characters (R184). -/
def symbolBytes (cs : List Byte) : List Byte := u8 cs.length :: cs

/-- A cell record of a QCELLS reply (R185). -/
def Cell.bytes (c : Cell) : List Byte :=
  u16Bytes c.code ++ [u8 c.fg, u8 c.bg, c.flags.byte, c.ref.elim 0xFF u8, onOffByte c.stale]

/-- Scale kind and parameter: 0xFF and 0 when absent, parameter 0 for H32 (R185). -/
def scaleBytes : Option Scale → List Byte
  | some (.dec d) => [0, u8 d]
  | some (.frac k) => [1, u8 k]
  | some .h32 => [2, 0]
  | none => [0xFF, 0]

def Placement.bytes (p : Placement) : List Byte := [u8 p.page, u8 p.row, u8 p.col, u8 p.layout]

def Limit.bytes (l : Limit) : List Byte := l.byte :: signed40 l.level

/-- The eight fields in field order (R18). -/
def allFields : List Field := [.bid, .ask, .last, .bsize, .asize, .volume, .ref, .time]

/-- BID, ASK and LAST, the fields with a direction, in field order (R18). -/
def priceFields : List Field := [.bid, .ask, .last]

/-- The QSLOT body (R185): the record, the pending field set, the dirty-list position. -/
def slotBytes (r : Slot) (fields : List Nat) (position : Option Nat) : List Byte :=
  [r.state.byte] ++ symbolBytes r.symbol ++ scaleBytes r.scale ++ [u8 r.flashStyle] ++ u16 r.stale ++ u16 r.age ++
  presenceFrame r.lastTake ++ (allFields.flatMap fun f => presence40 (r.value f)) ++
  (priceFields.map fun f => (r.move f).dir.byte) ++ (priceFields.flatMap fun f => presence40 (r.move f).prev) ++
  [u8 r.placements.length] ++ r.placements.flatMap Placement.bytes ++ r.high.bytes ++ r.low.bytes ++
  u16 r.conflation ++ [u8 (fields.map fun i => 2 ^ i).sum] ++ u16 (position.getD 0xFFFF)

/-- The STATUS body (R185). -/
def StatusBody.bytes (b : StatusBody) : List Byte :=
  u32Bytes b.counter ++ [b.phase.byte, b.format.byte] ++ b.area.bytes ++
  [b.colour.byte, b.power.byte, onOffByte b.linkHold, onOffByte b.keyHold, onOffByte b.overload, u8 b.clean] ++
  u16 b.pending ++ u16 b.dirty ++ [u8 b.flashes, u8 b.alerts, u8 b.limits] ++ u16 b.ring ++ [u8 b.inputDepth] ++
  u16 b.linkErrors ++ [onOffByte b.saving]

/-- The body of a reply (R185). -/
def ReplyBody.bytes : ReplyBody → List Byte
  | .empty => []
  | .power p => [p.byte]
  | .dropped entries alerts => [u8 entries, u8 alerts]
  | .extent n => [u8 n]
  | .index n => [u8 n]
  | .merged n => [u8 n]
  | .limit l count => [l.byte, u8 count]
  | .left n => [u8 n]
  | .holds link key => [onOffByte link, onOffByte key]
  | .ring n => u16 n
  | .cells cs => cs.flatMap Cell.bytes
  | .slot r fields position => slotBytes r fields position
  | .status b => b.bytes
  | .ident claimed loaded =>
    [u8 Config.familyCode] ++ u16 Config.partCode ++ [u8 Config.revision, u8 claimed, u8 loaded, u8 Config.ramBanks]
  | .mask m => [m.byte]
  | .lines ls => ls.flatMap fun l => [l.1.byte, levelByte l.2.1] ++ u16 l.2.2
  | .generation n => [u8 n]

/-- The payload of an entry of the output queue (R176, R185). -/
def OutEntry.payload : OutEntry → List Byte
  | .reply kind tag st flags body => [kind, tag, st.byte, flags.byte] ++ body.bytes
  | .alert event symbol a left =>
    [0xC0, event.byte, u8 a.slot] ++ symbolBytes symbol ++ [a.side.byte] ++ signed40 a.level ++ signed40 a.value ++
      u32Bytes a.frame ++ [u8 left]
  | .frame number slots entries left dirty overload held =>
    0xC1 :: (u32Bytes number ++ [u8 slots, u8 entries] ++ u16 left ++ u16 dirty ++ [onOffByte overload, onOffByte held])
  | .line n => [0xC2, u8 n.line, n.func.byte, levelByte n.level, u8 n.edges] ++ u16 n.count

/-- The sum of bytes modulo 256 (R171). -/
def byteSum (bs : List Byte) : Byte := bs.foldl (· + ·) 0

/-- The frame of a payload (R171): start byte, length, payload, and the check byte that makes the sum 0. -/
def frameBytes (payload : List Byte) : List Byte :=
  0xA5 :: (u16 payload.length ++ payload ++ [-byteSum (u16 payload.length ++ payload)])

end Sys2Proof.Machine
end

