-- ==== Sys2Proof/Machine/Formatter.lean ====
section
/-!
DEFINITION. The Value Formatter (chapter 05): the text of every column source under every scale, width and option.
-/

namespace Sys2Proof.Machine

/-- A text in character codes. -/
abbrev Text := List Code

/-- A character code. -/
def chr (c : Nat) : Code := BitVec.ofNat 16 c

/-- Decimal digits of `n`, most significant first, no leading zeros; `fuel` bounds their number. -/
def decDigits : Nat → Nat → List Nat
  | 0, _ => []
  | fuel + 1, n => if n < 10 then [n] else decDigits fuel (n / 10) ++ [n % 10]

/-- `n` in decimal digits, a single '0' for zero. -/
def digits (n : Nat) : Text := (decDigits (n + 1) n).map fun d => chr (0x30 + d)

/-- `n` in decimal digits with leading zeros to `w` characters. -/
def padDigits (w n : Nat) : Text := List.replicate (w - (digits n).length) (chr 0x30) ++ digits n

/-- A ',' after each three characters of a reversed text that has more to come. -/
def separateRev : Text → Text
  | a :: b :: c :: d :: rest => a :: b :: c :: chr 0x2C :: separateRev (d :: rest)
  | l => l

/-- A ',' between each group of three characters, counted from the right. -/
def separate (t : Text) : Text := (separateRev t.reverse).reverse

/-- `num / den` rounded half away from zero (R81). -/
def roundHalf (num : Int) (den : Nat) : Int :=
  let m : Int := ((2 * num.natAbs + den) / (2 * den) : Nat)
  if num < 0 then -m else m

/-- The sign of a price: '-' when the shown figure is negative (R82). -/
def priceSign (q : Int) : Text := if q < 0 then [chr 0x2D] else []

/-- The sign of a change: '+' or '-' by the shown figure, none for zero (R87). -/
def changeSign (q : Int) : Text := if q < 0 then [chr 0x2D] else if 0 < q then [chr 0x2B] else []

/-- The text of the shown integer `q` with `e` decimals (R82). -/
def decText (sign : Int → Text) (sep : Bool) (e : Nat) (q : Int) : Text :=
  let whole := digits (q.natAbs / 10 ^ e)
  sign q ++ (if sep then separate whole else whole) ++
    if e = 0 then [] else chr 0x2E :: padDigits e (q.natAbs % 10 ^ e)

/-- `n`, `n - 1`, …, 0. -/
def downFrom (n : Nat) : List Nat := (List.range (n + 1)).reverse

/-- The texts of a DEC price in the order the reduction tries them (R82, R83). -/
def decTexts (sign : Int → Text) (sep : Bool) (maxdec d : Nat) (v : Int) : List Text :=
  let e := min d maxdec
  (if sep then [decText sign true e (roundHalf v (10 ^ (d - e)))] else []) ++
    (downFrom e).map fun k => decText sign false k (roundHalf v (10 ^ (d - k)))

/-- The text of a FRAC price (R84). -/
def fracText (sign : Int → Text) (k : Nat) (v : Int) : Text :=
  let whole := v.natAbs / 2 ^ k
  let n := v.natAbs % 2 ^ k
  let g := Nat.gcd n (2 ^ k)
  let fraction := digits (n / g) ++ chr 0x2F :: digits (2 ^ k / g)
  sign v ++
    if n = 0 then digits whole
    else if whole = 0 then fraction
    else digits whole ++ chr 0x20 :: fraction

/-- The text of an H32 price (R85). -/
def h32Text (sign : Int → Text) (v : Int) : Text :=
  let t := v.natAbs % 64
  sign v ++ digits (v.natAbs / 64) ++ chr 0x2D :: padDigits 2 (t / 2) ++ if t % 2 = 1 then [chr 0x2B] else []

/-- The texts of a price or a change in a scale, in the order they are tried (R82 to R88). -/
def scaledTexts (sign : Int → Text) (sc : Scale) (sep : Bool) (maxdec : Nat) (v : Int) : List Text :=
  match sc with
  | .dec d => decTexts sign sep maxdec d v
  | .frac k => [fracText sign k v]
  | .h32 => [h32Text sign v]

/-- The texts of a percentage change (R89, R90). -/
def pctTexts (last ref : Int) : List Text :=
  if ref ≤ 0 then [[chr 0x2D, chr 0x2D]]
  else
    let p := roundHalf ((last - ref) * 10000) ref.natAbs
    let p1 := roundHalf ((last - ref) * 1000) ref.natAbs
    let p0 := roundHalf ((last - ref) * 100) ref.natAbs
    [decText changeSign false 2 p ++ [chr 0x25], decText changeSign false 2 p,
      decText changeSign false 1 p1, decText changeSign false 0 p0]

/-- The texts of a size (R91, R92). -/
def sizeTexts (sep compress : Bool) (n : Nat) : List Text :=
  (if sep then [separate (digits n)] else []) ++ [digits n] ++
    if compress then
      [digits ((n + 500) / 1000) ++ [chr 0x4B], digits ((n + 500000) / 1000000) ++ [chr 0x4D],
        digits ((n + 500000000) / 1000000000) ++ [chr 0x42]]
    else []

/-- The texts of a TIME in a column of width `w` (R93): none below 5. -/
def timeTexts (w : Nat) (v : Int) : List Text :=
  let n := v.natAbs
  let hm := padDigits 2 (n / 10000) ++ chr 0x3A :: padDigits 2 (n / 100 % 100)
  if 8 ≤ w then [hm ++ chr 0x3A :: padDigits 2 (n % 100)] else if 5 ≤ w then [hm] else []

/-- A text of at most `w` characters placed by the alignment (R80). -/
def placeText (w : Nat) (al : Align) (t : Text) : Text :=
  match al with
  | .left => t ++ List.replicate (w - t.length) (chr 0x20)
  | .right => List.replicate (w - t.length) (chr 0x20) ++ t

/-- The first text that fits the width, placed; with none, all cells hold the fill character (R80, R83). -/
def fitText (w : Nat) (al : Align) (fill : Nat) (ts : List Text) : Text :=
  match ts.find? fun t => t.length ≤ w with
  | some t => placeText w al t
  | none => List.replicate w (chr fill)

/-- A field of spaces (R80). -/
def spaces (w : Nat) : Text := List.replicate w (chr 0x20)

/-- The text of a field column that holds a value (R82 to R86, R91 to R93); a price needs the slot's scale. -/
def fieldText (r : Slot) (c : Column) (f : Field) (v : Int) : Text :=
  match f with
  | .bid => priceText
  | .ask => priceText
  | .last => priceText
  | .ref => priceText
  | .bsize => sizeText
  | .asize => sizeText
  | .volume => sizeText
  | .time => fitText c.width c.align 0x23 (timeTexts c.width v)
where
  /-- A price column in the slot's scale. -/
  priceText : Text :=
    match r.scale with
    | some sc => fitText c.width c.align 0x23 (scaledTexts priceSign sc c.sep c.maxdec v)
    | none => spaces c.width
  /-- A size column. -/
  sizeText : Text := fitText c.width c.align 0x2A (sizeTexts c.sep c.compress v.natAbs)

/-- The exact difference LAST − REF, if both hold values (R87). -/
def Slot.change (r : Slot) : Option (Int × Int) :=
  match r.value .last, r.value .ref with
  | some last, some ref => some (last, ref)
  | _, _ => none

/-- The character of an ARROW column (R95). -/
def arrowCode : Direction → Code
  | .up => 0x0018
  | .down => 0x0019
  | .none => 0x0020

/-- The text of a column, as many characters as its width (R77, R80). -/
def columnText (r : Slot) (c : Column) : Text :=
  match c.source with
  | .field f =>
    match r.value f with
    | some v => fieldText r c f v
    | none => spaces c.width
  | .chg =>
    match r.change, r.scale with
    | some (last, ref), some sc => fitText c.width c.align 0x23 (scaledTexts changeSign sc c.sep c.maxdec (last - ref))
    | _, _ => spaces c.width
  | .pct =>
    match r.change with
    | some (last, ref) => fitText c.width c.align 0x23 (pctTexts last ref)
    | none => spaces c.width
  | .symbol => placeText c.width c.align ((r.symbol.map fun b => chr b.toNat).take c.width)
  | .arrow => List.replicate c.width (arrowCode (r.move .last).dir)

/-- The direction that DIRTEXT colours a column by (R96). -/
def columnDirection (r : Slot) : Source → Direction
  | .field .bid => (r.move .bid).dir
  | .field .ask => (r.move .ask).dir
  | .field .last => (r.move .last).dir
  | .arrow => (r.move .last).dir
  | .chg => changeDirection
  | .pct => changeDirection
  | .field .bsize => .none
  | .field .asize => .none
  | .field .volume => .none
  | .field .ref => .none
  | .field .time => .none
  | .symbol => .none
where
  /-- The way of the exact LAST − REF. -/
  changeDirection : Direction :=
    match r.change with
    | some (last, ref) => if ref < last then .up else if last < ref then .down else .none
    | none => .none

/-- The foreground of a column (R96). -/
def columnFg (st : Style) (dir : Direction) : Nat :=
  if st.dirtext then
    match dir with
    | .up => st.up
    | .down => st.down
    | .none => st.fg
  else st.fg

end Sys2Proof.Machine
end

