-- ==== Sys2Proof/Machine/Paint.lean ====
section
/-!
DEFINITION. Painting and blanking placements in the cell store (R25, R30, R31, R77, R96 to R99).
-/

namespace Sys2Proof.Machine

/-- The index of row `r`, col `c` of a page (R3). -/
def Page.cellIndex (p : Page) (r c : Nat) : Nat := p.base + r * p.cols + c

/-- The cells of a page's run (R3). -/
def Page.size (p : Page) : Nat := p.rows * p.cols

/-- The flash table entry of slot `n` for field `f`, if it holds one (R98). -/
def Fau.find (u : Fau) (n : Nat) (f : Field) : Option Nat :=
  (u.flash.find? fun e =>
    match e.2 with
    | some x => x.slot == n && x.field == f
    | none => false).map (·.1)

/-- The flash reference of a column's cells: that of the field for BID, ASK and LAST, none elsewhere (R98). -/
def State.columnRef (s : State) (n : Nat) : Source → Option Nat
  | .field .bid => s.fau.find n .bid
  | .field .ask => s.fau.find n .ask
  | .field .last => s.fau.find n .last
  | .field .bsize => none
  | .field .asize => none
  | .field .volume => none
  | .field .ref => none
  | .field .time => none
  | .chg => none
  | .pct => none
  | .symbol => none
  | .arrow => none

/-- The cells the formatter makes for a column of slot `n` (R77, R96 to R99). -/
def State.columnCells (s : State) (n : Nat) (c : Column) : List Cell :=
  let r := s.slot n
  let st := s.style c.style
  (columnText r c).map fun code =>
    { code := code
      fg := columnFg st (columnDirection r c.source)
      bg := st.bg
      flags := st.flags
      ref := s.columnRef n c.source
      stale := r.state == .stale }

/-- The cells that blanking writes in a column (R25). -/
def State.blankCells (s : State) (c : Column) : List Cell :=
  let st := s.style c.style
  List.replicate c.width ⟨0x0020, st.fg, st.bg, ⟨false, false, false⟩, none, false⟩

/-- A column of a placement written with the cells `mk` gives for it (R30). -/
def State.writeColumn (mk : State → Column → List Cell) (pg : Page) (p : Placement) (s : State) (c : Column) : State :=
  s.writeCells (pg.cellIndex p.row (p.col + c.offset)) (mk s c)

/-- Every column cell of a placement written, column by column (R31). -/
def State.writePlacement (mk : State → Column → List Cell) (s : State) (p : Placement) : State :=
  match s.page p.page, s.layout p.layout with
  | some pg, some cs => cs.foldl (State.writeColumn mk pg p) s
  | _, _ => s

/-- Painting a placement of slot `n` (R31). -/
def State.paint (s : State) (n : Nat) (p : Placement) : State := s.writePlacement (fun s c => s.columnCells n c) p

/-- Painting every placement of slot `n`, in list order (R31). -/
def State.paintSlot (s : State) (n : Nat) : State := (s.slot n).placements.foldl (fun s p => s.paint n p) s

/-- Blanking a placement (R25). -/
def State.blankPlacement (s : State) (p : Placement) : State := s.writePlacement State.blankCells p

end Sys2Proof.Machine
end

