-- ==== Sys2Proof/Machine/Flash.lean ====
section
/-!
DEFINITION. The Flash and Alert Unit (chapter 06): spans, starts, ends and decay of flash entries, the alert check,
firing and acknowledgement.
-/

namespace Sys2Proof.Machine

/-- The span that a placement gives an entry of field `f`, if its layout shows the field (R102). -/
def State.placementSpan (s : State) (f : Field) (p : Placement) : Option Span :=
  match s.page p.page, s.layout p.layout with
  | some pg, some cs =>
    (cs.find? fun c => c.source == .field f).map fun c =>
      ⟨p.page, pg.cellIndex p.row (p.col + c.offset), c.width⟩
  | _, _ => none

/-- The spans of a new entry of slot `n` and field `f` (R102). -/
def State.spansOf (s : State) (n : Nat) (f : Field) : List Span :=
  (s.slot n).placements.filterMap (s.placementSpan f)

/-- The span holds cell `k`. -/
def Span.holds (sp : Span) (k : Nat) : Bool := decide (sp.cell ≤ k) && decide (k < sp.cell + sp.width)

/-- A cell whose reference names entry `i` loses it (R106). -/
def Cell.release (c : Cell) (i : Nat) : Cell := if c.ref = some i then { c with ref := none } else c

/-- The cells of the spans that still name entry `i` with their reference set to none (R106). -/
def State.releaseCells (s : State) (i : Nat) (spans : List Span) : State :=
  s.setCells (Table.adjust .blank (fun k c => if spans.any fun sp => sp.holds k then c.release i else c) s.cst.cells)

/-- Entry `i` ends (R106): references cleared in its spans, out of the age order, index free. -/
def State.endFlash (s : State) (i : Nat) : State :=
  match s.flashEntry i with
  | some e =>
    let t := s.releaseCells i e.spans
    t.setFau { t.fau with
      flash := Table.set none t.fau.flash i none
      order := t.fau.order.filter (· != i) }
  | none => s

/-- Entry `i` holds `e` and stands at the newest end of the age order (R101, R103). -/
def State.putFlash (s : State) (i : Nat) (e : FlashEntry) : State :=
  s.setFau { s.fau with
    flash := Table.set none s.fau.flash i (some e)
    order := s.fau.order.filter (· != i) ++ [i] }

/-- An UP or DOWN entry (R100). -/
def FlashEntry.isMoving (e : FlashEntry) : Bool :=
  match e.kind with
  | .moving .. => true
  | .alert => false

/-- The lowest-numbered free index (R104). -/
def State.freeFlash (s : State) : Option Nat :=
  (List.range Config.flashCount).find? fun i => (s.flashEntry i).isNone

/-- The oldest moving entry in the age order (R104). -/
def State.oldestMoving (s : State) : Option Nat :=
  s.fau.order.find? fun i => (s.flashEntry i).any FlashEntry.isMoving

/-- A new entry: on the lowest free index, or, with none free, on that of the oldest moving entry, which ends first
(R104). With neither, which the device limit of R110 excludes, nothing starts (log 20). -/
def State.newFlash (s : State) (e : FlashEntry) : State :=
  match s.freeFlash with
  | some i => s.putFlash i e
  | none =>
    match s.oldestMoving with
    | some i => (s.endFlash i).putFlash i e
    | none => s

/-- The colour of a moving flash in a flash style (R103). -/
def Style.moveColour (st : Style) : MoveKind → Nat
  | .up => st.up
  | .down => st.down

/-- A moving start for slot `n`, field `f` and kind `k`, stamped with the commit frame (R103). -/
def State.movingStart (s : State) (n : Nat) (f : Field) (k : MoveKind) : State :=
  let st := s.style (s.slot n).flashStyle
  let kind := FlashKind.moving k st.f st.f s.cme.frame
  match s.fau.find n f with
  | none =>
    if st.f = 0 then s else s.newFlash ⟨n, f, kind, st.moveColour k, s.spansOf n f⟩
  | some i =>
    match s.flashEntry i with
    | none => s
    | some e =>
      if e.isMoving then
        if st.f = 0 then s.endFlash i
        else s.putFlash i { e with kind := kind, colour := st.moveColour k }
      else s

/-- The LAST entry of slot `n` made an ALERT entry, or one created (R113, step 3). DESIGN CHOICE (log 32): an entry that is
ALERT already takes the alert colour as it stands too, as step 3 of R113 has it; R149 says that it keeps its colour. -/
def State.alertFlash (s : State) (n : Nat) : State :=
  let colour := (s.style (s.slot n).flashStyle).alert
  match s.fau.find n .last with
  | none => s.newFlash ⟨n, .last, .alert, colour, s.spansOf n .last⟩
  | some i =>
    match s.flashEntry i with
    | none => s
    | some e => s.putFlash i { e with kind := .alert, colour := colour }

/-- A notice of an alert record, offered if ALERT notices are enabled (R114). -/
def State.alertNotice (s : State) (event : AlertEvent) (a : AlertRec) : State :=
  if s.fli.mask.alert then s.offer (.alert event (s.slot a.slot).symbol a s.fau.alerts.length) else s

/-- The limit `side` of slot `n`, armed at `level`, fires on the new LAST `v` (R113). -/
def State.fire (s : State) (n : Nat) (side : Side) (level v : Int) : State :=
  let a : AlertRec := ⟨n, side, level, v, s.cme.frame⟩
  let s1 := s.setSlot n ((s.slot n).setLimit side (.fired level))
  let s2 := s1.setFau { s1.fau with alerts := s1.fau.alerts ++ [a] }
  (s2.alertFlash n).alertNotice .fired a

/-- Whether LAST `v` reaches a level on a side (R113). -/
def Side.reached (side : Side) (level v : Int) : Bool :=
  match side with
  | .high => decide (level ≤ v)
  | .low => decide (v ≤ level)

/-- One limit of the alert check (R113). -/
def State.checkLimit (s : State) (n : Nat) (v : Int) (side : Side) : State :=
  match (s.slot n).limit side with
  | .armed level => if side.reached level v then s.fire n side level v else s
  | .disarmed => s
  | .fired _ => s

/-- The alert check on a new LAST: HIGH first, then LOW (R113). -/
def State.alertCheck (s : State) (n : Nat) (v : Int) : State := (s.checkLimit n v .high).checkLimit n v .low

/-- The other limit of a slot. -/
def Side.other : Side → Side
  | .high => .low
  | .low => .high

/-- The ALERT entry of slot `n` ends, if it has one (R115). -/
def State.endAlertFlash (s : State) (n : Nat) : State :=
  match s.fau.find n .last with
  | none => s
  | some i => if (s.flashEntry i).any fun e => e.kind == .alert then s.endFlash i else s

/-- The record of slot `n` and `side`. -/
def AlertRec.names (a : AlertRec) (n : Nat) (side : Side) : Bool := a.slot == n && a.side == side

/-- Acknowledging the FIRED limit `side` of slot `n` (R115). -/
def State.acknowledge (s : State) (n : Nat) (side : Side) : State :=
  let s1 := s.setFau { s.fau with alerts := s.fau.alerts.filter fun a => !a.names n side }
  let s2 := s1.setSlot n ((s1.slot n).setLimit side .disarmed)
  if ((s2.slot n).limit side.other).isFired then s2 else s2.endAlertFlash n

/-- The ACK key acknowledges the record at the head of the alert queue (R116), without its notice. -/
def State.acknowledgeHead (s : State) : State :=
  match s.fau.alerts with
  | [] => s
  | a :: _ => s.acknowledge a.slot a.side

/-- Decay of entry `i` at the frame start numbered `now` (R105). -/
def State.decayEntry (now : FrameNo) (s : State) (i : Nat) : State :=
  match s.flashEntry i with
  | none => s
  | some e =>
    match e.kind with
    | .alert => s
    | .moving k len rem start =>
      if start = now then s
      else if rem ≤ 1 then s.endFlash i
      else s.setFau { s.fau with
        flash := Table.set none s.fau.flash i (some { e with kind := .moving k len (rem - 1) start }) }

/-- Decay of the flash table at an unheld frame start (R105). -/
def State.decay (s : State) : State := (s.fau.flash.map (·.1)).foldl (State.decayEntry s.dtg.counter) s

end Sys2Proof.Machine
end

