-- ==== Sys2Proof/Machine/Commit.lean ====
section
/-!
DEFINITION. The Commit Engine (chapter 04): the take, the step and the end of a commit.
-/

namespace Sys2Proof.Machine

/-- The pending entries of slot `n`, in field order (R49, R62). -/
def State.pendingOf (s : State) (n : Nat) : List (Field × Int) :=
  allFields.filterMap fun f => (s.pendingValue n f.num).map fun v => (f, v)

/-- BID, ASK and LAST carry a direction (R18). -/
def Field.isMoving (f : Field) : Bool := priceFields.contains f

/-- The move of a price field that held `old` and now stores `v` (R62). -/
def Move.next (m : Move) (old : Option Int) (v : Int) : Move :=
  match old with
  | none => .still
  | some w => ⟨if w < v then .up else if v < w then .down else m.dir, some w⟩

/-- The record with one removed value stored (R62). -/
def Slot.store (r : Slot) (e : Field × Int) : Slot :=
  { r with
    values := Table.set none r.values e.1.num (some e.2)
    moves :=
      if e.1.isMoving then Table.set .still r.moves e.1.num ((r.move e.1).next (r.value e.1) e.2) else r.moves }

/-- The fields of BID, ASK and LAST whose value changes by storing `es` in `r`, with the way of the change, in field
order (R64). -/
def Slot.moved (r : Slot) (es : List (Field × Int)) : List (Field × MoveKind) :=
  es.filterMap fun e =>
    if e.1.isMoving then
      match r.value e.1 with
      | some w => if w < e.2 then some (e.1, .up) else if e.2 < w then some (e.1, .down) else none
      | none => none
    else none

/-- The record after a take in the commit of `frame` (R62, R63). -/
def Slot.taken (r : Slot) (es : List (Field × Int)) (frame : FrameNo) : Slot :=
  { es.foldl Slot.store r with state := .fresh, age := 0, lastTake := some frame }

/-- The slot and its entries leave the Update Queue, and the commit counts them (R49, R61). -/
def State.removePending (s : State) (n count : Nat) : State :=
  (s.setUpq { s.upq with
    pool := Table.clearRun s.upq.pool (poolKey n 0) 8
    dirty := s.upq.dirty.tail }).setCme { s.cme with
    budget := s.cme.budget - count
    slotsTaken := s.cme.slotsTaken + 1
    entriesTaken := s.cme.entriesTaken + count }

/-- The alert check of a take that stored LAST (R64). -/
def State.alertCheckOf (s : State) (n : Nat) (es : List (Field × Int)) : State :=
  match es.find? fun e => e.1 == .last with
  | some e => s.alertCheck n e.2
  | none => s

/-- The take of slot `n` from the head of the dirty list (R61 to R65). -/
def State.take (s : State) (n : Nat) : State :=
  let es := s.pendingOf n
  let r := s.slot n
  let s1 := (s.removePending n es.length).setSlot n (r.taken es s.cme.frame)
  let s2 := s1.alertCheckOf n es
  let s3 := (r.moved es).foldl (fun s m => s.movingStart n m.1 m.2) s2
  s3.paintSlot n

/-- A FRAME notice of the commit frame offered if FRAME notices are enabled (R68). -/
def State.frameNotice (s : State) (overload held : Bool) : State :=
  if s.fli.mask.frame then
    s.offer (.frame s.cme.frame s.cme.slotsTaken s.cme.entriesTaken s.upq.pool.length s.upq.dirty.length overload held)
  else s

/-- The end of a commit (R67). -/
def State.endCommit (s : State) : State :=
  (s.setCme { s.cme with state := .idle }).frameNotice s.upq.overload false

/-- One step of a running commit (R60). -/
def State.commitStep (s : State) : State :=
  match s.upq.dirty with
  | [] => s.endCommit
  | n :: _ => if (s.pendingOf n).length ≤ s.cme.budget then s.take n else s.endCommit

/-- COMMIT_STEP (R60): a step is made only while a commit runs (log 3). -/
def execCommitStep (s : State) : Host.Outcome State Fault Refusal :=
  match s.cme.state with
  | .committing => .next s.commitStep
  | .idle => .next s

end Sys2Proof.Machine
end

