-- ==== Sys2Proof/Machine/Timing.lean ====
section
/-!
DEFINITION. Display timing (chapter 09): frame start with what each block does at it, scan start, sleep entry; and the
requests FORMAT and MODE.
-/

namespace Sys2Proof.Machine

/-- The generator's own action at a frame start (R161). -/
def Dtg.frameStart (d : Dtg) : Dtg :=
  { d with
    counter := d.counter + 1
    activeFormat := d.stagedFormat
    activeArea := d.stagedArea
    activeColour := d.stagedColour
    phase := .blank
    restart := false }

/-- The clean frame count at a frame start (R53, R54). -/
def Upq.frameStart (u : Upq) : Upq :=
  if u.mark then { u with mark := false, clean := 0 }
  else
    let c := min (u.clean + 1) Config.cleanFrames
    { u with clean := c, overload := if c = Config.cleanFrames then false else u.overload }

/-- The Commit Engine at a frame start numbered `now` whose hold is `held` (R57 to R59), the notice left out. -/
def Cme.frameStart (c : Cme) (now : FrameNo) (held : Bool) : Cme :=
  if held then { c with frame := now, slotsTaken := 0, entriesTaken := 0, frameHold := true }
  else
    { c with
      state := .committing
      frame := now
      budget := Config.commitBudget
      slotsTaken := 0
      entriesTaken := 0
      frameHold := false }

/-- The OVERLOAD item of a held frame start's notice: where the clean count of the same frame start changes it, which
of the two values it shows is a free value (log 7). -/
def State.heldNotice (s : State) (before after : Bool) : State :=
  if s.fli.mask.frame then
    if before = after then s.frameNotice after true
    else s.draw.frameNotice (if Config.heldAfterClean s.choices then after else before) true
  else s

/-- Whether an age has just reached a positive stale interval (R107). -/
def Slot.turnsStale (r : Slot) : Bool := r.state == .fresh && decide (0 < r.stale) && r.age == r.stale

/-- A FRESH or STALE slot whose last take frame is not this frame start's number grows older by one (R107). -/
def Slot.ages (r : Slot) (now : FrameNo) : Bool :=
  (r.state == .fresh || r.state == .stale) && r.lastTake != some now

/-- The age after counting one frame start, saturating (R107). -/
def Slot.older (r : Slot) : Slot := { r with age := min (r.age + 1) Config.countMax }

/-- A slot record after the ageing of the frame start numbered `now` (R107). A saturated age has not just reached
the stale interval. -/
def Slot.aged (r : Slot) (now : FrameNo) : Slot :=
  if r.ages now then
    if r.age < Config.countMax ∧ r.older.turnsStale then { r.older with state := .stale } else r.older
  else r

/-- The slots that turn STALE at the frame start numbered `now` (R107). -/
def State.newlyStale (s : State) (now : FrameNo) : List Nat :=
  (s.itb.slots.filter fun e => e.2.state == .fresh && (e.2.aged now).state == .stale).map (·.1)

/-- A number put in its place by rising key. -/
def insertBy (key : Nat → Nat) (n : Nat) : List Nat → List Nat
  | [] => [n]
  | m :: rest => if key n ≤ key m then n :: m :: rest else m :: insertBy key n rest

/-- The numbers in order of rising key. -/
def sortBy (key : Nat → Nat) : List Nat → List Nat
  | [] => []
  | n :: rest => insertBy key n (sortBy key rest)

/-- Stale ageing at an unheld frame start (R107), and the repaint of the slots that turn STALE (R108), in an order that
the spec leaves open (log 5). -/
def State.ageSlots (s : State) (now : FrameNo) : State :=
  let turned := s.newlyStale now
  let s1 := s.setSlots (Table.adjust .empty (fun _ r => r.aged now) s.itb.slots)
  if turned.length ≤ 1 then turned.foldl State.paintSlot s1
  else (sortBy (Config.staleKey s.choices) turned).foldl State.paintSlot s1.draw

/-- The pane of kind CRAWL in a copy, if there is one (R121). -/
def Composition.crawlPane (c : Composition) : Option Pane :=
  ((List.range 8).map c.pane).find? fun p => p.kind == .crawl

/-- The compositor's load at a frame start (R123); `reformat` says that a different format became active. -/
def Sco.load (c : Sco) (reformat : Bool) : Sco :=
  { c with
    active := c.staged
    display := if c.bannerEnd then .panes else c.display
    bannerEnd := false
    lead :=
      match c.staged.crawlPane with
      | some p => min c.lead p.cols
      | none => 0
    offset := if reformat then 0 else c.offset }

/-- One step of the crawl, the offset already lowered by the cell width (R136). The first step after a CRAWL into the
empty ring with the lead at 0 removes nothing: where R136 and row 1 of R138 differ, the model follows R138 (its choice,
log 29). -/
def Sco.crawlStep (c : Sco) (cols : Nat) : Sco :=
  if 0 < c.lead then { c with lead := c.lead - 1 }
  else if c.entered then { c with entered := false }
  else
    match c.ring with
    | [] => { c with lead := cols, offset := 0 }
    | [_] => { c with ring := [], lead := cols, offset := 0 }
    | _ :: rest => { c with ring := rest }

/-- The crawl advance with cell width `w` (R136). Speed is at most 8 and `w` at least 8, so it makes at most one step. -/
def Sco.advance (c : Sco) (w : Nat) : Sco :=
  match c.active.crawlPane with
  | none => c
  | some p =>
    if p.priority = 0 then c
    else if c.offset + c.speed < w then { c with offset := c.offset + c.speed }
    else Sco.crawlStep { c with offset := c.offset + c.speed - w } p.cols

/-- The start of RDY: frame start 1 starts its 2 ms (R193). -/
def RdyStart.frameStart : RdyStart → RdyStart
  | .waitFrame => .timing
  | .timing => .timing
  | .following => .following

/-- Frame start (R161) with what each block does at it (R53, R57 to R59, R105, R107, R123, R136), all before the first
step of the commit it begins (log 4). -/
def State.frameStart (s : State) : State :=
  let held := s.held
  let s0 := s.setDtg s.dtg.frameStart
  let s1 := s0.setFli { s0.fli with rdyStart := s0.fli.rdyStart.frameStart }
  let s2 := s1.setUpq s1.upq.frameStart
  let s3 := s2.setCme (s2.cme.frameStart s2.dtg.counter held)
  let s4 := if held then s3.heldNotice s.upq.overload s2.upq.overload else (s3.decay).ageSlots s3.dtg.counter
  let s5 := s4.setSco (s4.sco.load (s.dtg.activeFormat != s4.dtg.activeFormat))
  if held then s5 else s5.setSco (s5.sco.advance s5.dtg.activeFormat.cellW)

/-- Sleep entry (R166). -/
def State.sleepEntry (s : State) : State :=
  s.setDtg { s.dtg with power := .asleep, phase := .blank, restart := false }

/-- The generator stands at the boundary where a frame start, or sleep entry, comes: awake, at the end of the active
lines, or with its timing restarted (R160, R168, R169). -/
def Dtg.atBoundary (d : Dtg) : Bool := d.power == .awake && (d.phase == .scan || d.restart)

/-- FRAME_START (R161): with ASLEEP staged it is not produced and sleep is entered instead; away from the boundary it
does not come (log 3). -/
def execFrameStart (s : State) : Host.Outcome State Fault Refusal :=
  if s.dtg.atBoundary then
    match s.dtg.stagedPower with
    | .awake => .next s.frameStart
    | .asleep => .next s.sleepEntry
  else .next s

/-- SLEEP_ENTRY (R166): only at the boundary and with ASLEEP staged (log 3). -/
def execSleepEntry (s : State) : Host.Outcome State Fault Refusal :=
  if s.dtg.atBoundary ∧ s.dtg.stagedPower = .asleep then .next s.sleepEntry else .next s

/-- A scan start follows the frame start of the blank interval (R160). -/
def Dtg.scanDue (d : Dtg) : Bool := d.power == .awake && d.phase == .blank && !d.restart

/-- The phase becomes SCAN and a running commit ends (R66, R162). -/
def State.scanStart (s : State) : State :=
  let s1 := s.setDtg { s.dtg with phase := .scan }
  match s1.cme.state with
  | .committing => s1.endCommit
  | .idle => s1

/-- SCAN_START (R162): away from the end of a blank interval it does not come (log 3). -/
def execScanStart (s : State) : Host.Outcome State Fault Refusal :=
  if s.dtg.scanDue then .next s.scanStart else .next s

/-! ## FORMAT and MODE -/

/-- FORMAT (R159). -/
def formatAction (o : FormatOps) (s : State) : Answer :=
  match Format.ofByte? o.format with
  | none => refuse .badValue s
  | some f => accept .empty (s.setDtg { s.dtg with stagedFormat := f })

/-- FORMAT (R159). -/
def execFormat (tag : Byte) (body : Body FormatOps) (s : State) : Host.Outcome State Fault Refusal :=
  s.serve ⟨0x01, tag, body.bytes encodeFormat⟩ (withOps body formatAction)

/-- The generator after an accepted MODE (R164, R168): the three staged values, and a wake at once. -/
def Dtg.setModes (d : Dtg) (a : Area) (c : ColourMode) (p : Power) : Dtg :=
  let e := { d with stagedArea := a, stagedColour := c, stagedPower := p }
  match d.power, p with
  | .asleep, .awake => { e with power := .awake, restart := true }
  | .asleep, .asleep => e
  | .awake, _ => e

/-- MODE (R164). -/
def modeAction (o : ModeOps) (s : State) : Answer :=
  match Area.ofBytes? o.area o.first o.last, ColourMode.ofByte? o.colour, Power.ofByte? o.power with
  | some a, some c, some p =>
    let t := s.setDtg (s.dtg.setModes a c p)
    accept (.power t.dtg.power) t
  | _, _, _ => refuse .badValue s

/-- MODE (R164). -/
def execMode (tag : Byte) (body : Body ModeOps) (s : State) : Host.Outcome State Fault Refusal :=
  s.serve ⟨0x02, tag, body.bytes encodeMode⟩ (withOps body modeAction)

end Sys2Proof.Machine
end

