-- ==== Sys2Proof/Machine/Link.lean ====
section
/-!
DEFINITION. The Feed Link Interface (chapter 10): the receive hunt, transmission, and the requests NOTE and STATUS and
the refusal of an unknown kind.
-/

namespace Sys2Proof.Machine

/-! ## The receive hunt (R172, R173) -/

/-- The receiver back in HUNT with nothing kept and the gap timer stopped. -/
def Fli.hunting (f : Fli) : Fli := { f with rxState := .hunt, kept := [], gapTimer := false }

/-- The payload length that the two kept length bytes give (R171). -/
def payloadLength (kept : List Byte) : Nat :=
  match kept with
  | hi :: lo :: _ => (word hi lo).toNat
  | _ => 0

/-- A payload length a frame may have (R171). -/
def goodLength (n : Nat) : Bool := decide (2 ≤ n) && decide (n ≤ 1024)

/-- The request a payload holds (R174). -/
def payloadFrame : List Byte → Option Frame
  | kind :: tag :: body => some ⟨kind, tag, body⟩
  | _ => none

/-- A good frame handed to the input record queue (R172, R174). -/
def Fli.goodFrame (f : Fli) (payload : List Byte) : Fli :=
  match payloadFrame payload with
  | some g => f.hunting.arrive g
  | none => f.hunting

/-- The receiver with a byte of the frame in progress kept, the gap timer started afresh (R172). -/
def Fli.keep (f : Fli) (b : Byte) (st : RxState) : Fli :=
  { f with rxState := st, kept := f.kept ++ [b], gapTimer := true }

/-- What the receiver does with a byte (R172): it goes on, or the frame in progress is discarded. -/
inductive Received where
  | goesOn (f : Fli)
  | discard (f : Fli)
deriving DecidableEq, Repr

/-- A byte taken by the receiver in its state (R172). In a discard the byte is among the kept ones. -/
def Fli.receive (f : Fli) (b : Byte) : Received :=
  match f.rxState with
  | .hunt => .goesOn (if b = 0xA5 then { f with rxState := .length1, kept := [], gapTimer := true } else f)
  | .length1 => .goesOn (f.keep b .length2)
  | .length2 =>
    let g := f.keep b .payload
    if goodLength (payloadLength g.kept) then .goesOn g else .discard g
  | .payload =>
    let g := f.keep b .payload
    if g.kept.length = 2 + payloadLength g.kept then .goesOn { g with rxState := .check } else .goesOn g
  | .check =>
    if byteSum f.kept + b = 0 then .goesOn (f.goodFrame (f.kept.drop 2)) else .discard (f.keep b .check)

/-- The link error count risen by one, saturating (R173). -/
def Fli.countError (f : Fli) : Fli := { f with linkErrors := min (f.linkErrors + 1) Config.countMax }

/-- The bytes taken in order, up to the first discard; then the receiver as the discard finds it, with the bytes that
are still to be taken. -/
def Fli.receiveAll (f : Fli) : List Byte → Fli × Option (List Byte)
  | [] => (f, none)
  | b :: rest =>
    match f.receive b with
    | .goesOn g => g.receiveAll rest
    | .discard g => (g, some rest)

/-- Bytes taken by the receiver; at each discard the kept bytes after the start byte are searched again, ahead of the
bytes that follow (R173). `fuel` bounds the discards: each one uses up a start byte. -/
def Fli.search : Nat → Fli → List Byte → Fli
  | 0, f, _ => f
  | fuel + 1, f, bytes =>
    match f.receiveAll bytes with
    | (g, none) => g
    | (g, some rest) => Fli.search fuel g.countError.hunting (g.kept ++ rest)

/-- The frame in progress discarded, the error counted, and the kept bytes searched again (R173). -/
def Fli.discardFrame (f : Fli) : Fli := Fli.search (f.kept.length + 1) f.countError.hunting f.kept

/-- A byte that arrives on RXD, whose stop bit may be low (R172, R173). -/
def Fli.rxByte (f : Fli) (b : Byte) (stopLow : Bool) : Fli :=
  if stopLow then
    match f.rxState with
    | .hunt => f
    | .length1 => f.discardFrame
    | .length2 => f.discardFrame
    | .payload => f.discardFrame
    | .check => f.discardFrame
  else Fli.search (f.kept.length + 2) f [b]

/-- RXD_BYTE (R172). -/
def execRxdByte (byte : Byte) (stopLow : Bool) (s : State) : Host.Outcome State Fault Refusal :=
  .next (s.setFli (s.fli.rxByte byte stopLow))

/-- GAP_TIMER_EXPIRY (R173): a timer that does not run does not expire (log 3). -/
def execGapTimerExpiry (s : State) : Host.Outcome State Fault Refusal :=
  if s.fli.gapTimer then .next (s.setFli s.fli.discardFrame) else .next s

/-! ## Transmission (R180) -/

/-- Sending of the head entry begins (R180). -/
def Fli.startSending (f : Fli) : Fli := { f with sending := f.outQ.head?.map fun e => frameBytes e.payload }

/-- TRANSMIT_START (R180): with HRDY high and no frame being sent, sending of the head entry begins; the command gives
the level of HRDY (log 12). -/
def execTransmitStart (hrdy : Level) (s : State) : Host.Outcome State Fault Refusal :=
  let s1 := s.setFli { s.fli with hrdy := hrdy }
  if hrdy = .high ∧ s.fli.sending = none then .next (s1.setFli s1.fli.startSending) else .next s1

/-- The check byte has been sent and the entry leaves the queue (R180). -/
def Fli.endSending (f : Fli) : Fli := { f with outQ := f.outQ.tail, sending := none }

/-- TRANSMIT_END (R180): with no frame being sent nothing ends (log 3). -/
def execTransmitEnd (s : State) : Host.Outcome State Fault Refusal :=
  match s.fli.sending with
  | some _ => .next (s.setFli s.fli.endSending)
  | none => .next s

/-! ## NOTE, STATUS, unknown kinds -/

/-- NOTE (R181). -/
def noteAction (o : NoteOps) (s : State) : Answer :=
  match NoticeMask.ofByte? o.mask with
  | none => refuse .badValue s
  | some m => accept (.mask m) (s.setFli { s.fli with mask := m })

/-- NOTE (R181). -/
def execNote (tag : Byte) (body : Body NoteOps) (s : State) : Host.Outcome State Fault Refusal :=
  s.serve ⟨0x32, tag, body.bytes encodeNote⟩ (withOps body noteAction)

/-- The items of STATUS as they stand (R182). -/
def State.statusBody (s : State) : StatusBody where
  counter := s.dtg.counter
  phase := s.dtg.phase
  format := s.dtg.activeFormat
  area := s.dtg.activeArea
  colour := s.dtg.activeColour
  power := s.dtg.power
  linkHold := s.cme.linkHold
  keyHold := s.keyHold
  overload := s.upq.overload
  clean := s.upq.clean
  pending := s.upq.pool.length
  dirty := s.upq.dirty.length
  flashes := s.fau.flash.length
  alerts := s.fau.alerts.length
  limits := s.limitCount
  ring := s.sco.ring.length
  inputDepth := s.fli.inQ.length
  linkErrors := s.fli.linkErrors
  saving := s.pst.programming.isSome

/-- STATUS (R182): it clears the link error count. -/
def statusAction (_ : NoOps) (s : State) : Answer :=
  accept (.status s.statusBody) (s.setFli { s.fli with linkErrors := 0 })

/-- STATUS (R182). -/
def execStatus (tag : Byte) (body : Body NoOps) (s : State) : Host.Outcome State Fault Refusal :=
  s.serve ⟨0x30, tag, body.bytes encodeEmpty⟩ (withOps body statusAction)

/-- UNKNOWN_KIND (R176). -/
def execUnknownKind (kind tag : Byte) (bytes : List Byte) (s : State) : Host.Outcome State Fault Refusal :=
  s.serve ⟨kind, tag, bytes⟩ (refuse .unknownKind)

end Sys2Proof.Machine
end

