-- ==== Sys2Proof/Machine/LocalLines.lean ====
section
/-!
DEFINITION. The Line Unit (chapter 11): pin changes, debounced edges and what they are handed to, and the requests
LINES and HOLD.
-/

namespace Sys2Proof.Machine

/-- The state with line `l` replaced. -/
def State.setLine (s : State) (l : Nat) (x : Line) : State := s.setLines (Table.set .idle s.lnu.lines l x)

/-- A change of the pin level of a line (R187): for an input line the debounce timer starts, starts afresh or stops. -/
def Line.pinChange (x : Line) (level : Level) : Line :=
  if x.func.isInput then { x with pin := level, timer := level != x.level } else { x with pin := level }

/-- LINE_PIN_CHANGE (R187). An output line is not debounced; the level put on its pin is only kept (log 18). -/
def execLinePinChange (line : Fin 4) (level : Level) (s : State) : Host.Outcome State Fault Refusal :=
  .next (s.setLine line.val ((s.line line.val).pinChange level))

/-- A line after a debounced edge (R187). -/
def Line.edge (x : Line) : Line :=
  { x with level := x.pin, edges := min (x.edges + 1) Config.countMax, timer := false }

/-- The LINE notice of one edge (R188). -/
def Line.notice (x : Line) (l : Nat) : LineNotice := ⟨l, x.func, x.level, 1, x.edges⟩

/-- A waiting LINE notice of line `l` takes the edge (R179, R188). -/
def OutEntry.mergeLine (l : Nat) (x : Line) (e : OutEntry) : OutEntry :=
  match e with
  | .line n => if n.line = l then .line ⟨l, x.func, x.level, min (n.edges + 1) 255, x.edges⟩ else e
  | .reply .. => e
  | .alert .. => e
  | .frame .. => e

/-- A LINE notice of line `l`. -/
def OutEntry.isLine (l : Nat) (e : OutEntry) : Bool :=
  match e with
  | .line n => n.line == l
  | .reply .. => false
  | .alert .. => false
  | .frame .. => false

/-- The entries whose sending has begun: the head while a frame is being sent (R179). -/
def Fli.sentCount (f : Fli) : Nat := if f.sending.isSome then 1 else 0

/-- The edge of line `l` reported: merged into the waiting notice of the line, whatever the mask (R179, R181); else a
new notice offered if LINE notices are enabled (R188). -/
def State.lineNotice (s : State) (l : Nat) : State :=
  let k := s.fli.sentCount
  let x := s.line l
  if (s.fli.outQ.drop k).any (OutEntry.isLine l) then
    s.setFli { s.fli with outQ := s.fli.outQ.take k ++ (s.fli.outQ.drop k).map (OutEntry.mergeLine l x) }
  else if s.fli.mask.line then s.offer (.line (x.notice l))
  else s

/-- The KEYACK notice of the record `a` (R116), if ALERT notices are enabled; the record has left the queue. -/
def State.keyackNotice (s : State) (a : AlertRec) : State := s.alertNotice .keyack a

/-- A falling edge on an ACK line (R116, R187): the head record is acknowledged, and the KEYACK notice and the LINE
notice are offered in an order that the spec leaves open (log 6). -/
def State.ackEdge (s : State) (l : Nat) : State :=
  match s.fau.alerts with
  | [] => s.lineNotice l
  | a :: _ =>
    let t := s.acknowledgeHead
    if t.fli.mask.alert ∧ t.fli.mask.line then
      let u := t.draw
      if Config.keyAckFirst t.choices then (u.keyackNotice a).lineNotice l else (u.lineNotice l).keyackNotice a
    else (t.keyackNotice a).lineNotice l

/-- A debounced edge of line `l` (R187). A HOLD line changes the key hold by its level alone (R72). -/
def State.debouncedEdge (s : State) (l : Nat) : State :=
  let x := (s.line l).edge
  let t := s.setLine l x
  if x.func = .ack ∧ x.level = .low then t.ackEdge l else t.lineNotice l

/-- The debounce timer of a line runs, with the pin at the new level (R187). -/
def Line.edgeDue (x : Line) : Bool := x.timer && x.pin != x.level

/-- DEBOUNCE_EXPIRY (R187): a timer that does not run does not expire (log 3). -/
def execDebounceExpiry (line : Fin 4) (s : State) : Host.Outcome State Fault Refusal :=
  if (s.line line.val).edgeDue then .next (s.debouncedEdge line.val) else .next s

/-! ## LINES and HOLD -/

/-- A line given the function `f` (R186, R187): unchanged if it has it; else no edges, debounce stopped, and the pin's
present level as its level. -/
def Line.given (x : Line) (f : LineFunc) : Line :=
  if x.func = f then x else { x with func := f, level := x.pin, edges := 0, timer := false }

/-- The function, level and edge count of each line (R186). -/
def State.linesBody (s : State) : List (LineFunc × Level × Nat) :=
  (List.range 4).map fun l => ((s.line l).func, s.lineLevel l, (s.line l).edges)

/-- LINES (R186). -/
def linesAction (o : LinesOps) (s : State) : Answer :=
  match LineFunc.ofByte? o.l0, LineFunc.ofByte? o.l1, LineFunc.ofByte? o.l2, LineFunc.ofByte? o.l3 with
  | some a, some b, some c, some d =>
    let t := s.setLines (Table.writeRun .idle s.lnu.lines 0
      [(s.line 0).given a, (s.line 1).given b, (s.line 2).given c, (s.line 3).given d])
    accept (.lines t.linesBody) t
  | _, _, _, _ => refuse .badValue s

/-- LINES (R186). -/
def execLines (tag : Byte) (body : Body LinesOps) (s : State) : Host.Outcome State Fault Refusal :=
  s.serve ⟨0x33, tag, body.bytes encodeLines⟩ (withOps body linesAction)

/-- HOLD (R71). -/
def holdAction (o : HoldOps) (s : State) : Answer :=
  match onOff? o.value with
  | none => refuse .badValue s
  | some v => accept (.holds v s.keyHold) (s.setCme { s.cme with linkHold := v })

/-- HOLD (R71). -/
def execHold (tag : Byte) (body : Body HoldOps) (s : State) : Host.Outcome State Fault Refusal :=
  s.serve ⟨0x28, tag, body.bytes encodeHold⟩ (withOps body holdAction)

end Sys2Proof.Machine
end

