-- ==== Sys2Proof/Machine/ProfileStore.lean ====
section
/-!
DEFINITION. The Profile Store and the resets (chapter 11): SAVE and its completion, IDENT, RESET, power-on and hard
reset, and the rise of RDY.
-/

namespace Sys2Proof.Machine

/-- The generation numbers (R189). -/
def generations : List Nat := [1, 2, 3, 4]

/-- The lowest unclaimed generation (R190). -/
def State.unclaimed (s : State) : Option Nat := generations.find? fun g => !(s.gen g).claimed

/-- The number of claimed generations (R191). -/
def State.claimedCount (s : State) : Nat := generations.countP fun g => (s.gen g).claimed

/-- The six data items as they stand (R189, R190). -/
def State.currentProfile (s : State) : Profile :=
  ⟨s.dtg.stagedFormat, s.gcu.palette, s.gcu.styles, s.gcu.back, s.gcu.dim, s.gcu.banner⟩

/-- SAVE (R190): an accepted SAVE gets no reply until it completes. -/
def saveAction (tag : Byte) (_ : NoOps) (s : State) : Answer :=
  if s.pst.programming.isSome then refuse .busy s
  else
    match s.unclaimed with
    | none => refuse .storeFull s
    | some g =>
      let t := s.setPst { s.pst with
        gens := Table.set .unused s.pst.gens g { s.gen g with claimed := true }
        programming := some ⟨g, tag, s.currentProfile⟩ }
      ⟨t.setFli { t.fli with reserved := t.fli.reserved + 1 }, none⟩

/-- SAVE (R190). -/
def execSave (tag : Byte) (body : Body NoOps) (s : State) : Host.Outcome State Fault Refusal :=
  s.serve ⟨0x34, tag, body.bytes encodeEmpty⟩ (withOps body (saveAction tag))

/-- The end of the 40 ms of programming (R190): the data and the done mark stand in the generation, the store is IDLE,
and the reply goes into the reserved place. -/
def State.completeSave (s : State) (p : Programming) : State :=
  let t := s.setPst { s.pst with
    gens := Table.set .unused s.pst.gens p.generation { s.gen p.generation with done := some p.data }
    programming := none }
  (t.setFli { t.fli with reserved := t.fli.reserved - 1 }).reply (replyKind 0x34) p.tag .ok (.generation p.generation)

/-- SAVE_COMPLETION (R190): with the store IDLE nothing completes (log 3). -/
def execSaveCompletion (s : State) : Host.Outcome State Fault Refusal :=
  match s.pst.programming with
  | some p => .next (s.completeSave p)
  | none => .next s

/-- IDENT (R191). -/
def identAction (_ : NoOps) (s : State) : Answer := accept (.ident s.claimedCount s.pst.loaded) s

/-- IDENT (R191). -/
def execIdent (tag : Byte) (body : Body NoOps) (s : State) : Host.Outcome State Fault Refusal :=
  s.serve ⟨0x31, tag, body.bytes encodeEmpty⟩ (withOps body identAction)

/-! ## Resets -/

/-- The highest generation whose done mark is set (R191). -/
def State.highestDone (s : State) : Option Nat := generations.reverse.find? fun g => (s.gen g).done.isSome

/-- The number of the profile a reset loads: 0 for the factory profile (R191). -/
def State.loadNumber (s : State) : Nat := s.highestDone.getD 0

/-- The profile a reset loads (R191). -/
def State.loadProfile (s : State) : Profile :=
  match s.highestDone with
  | some g => (s.gen g).done.getD .factory
  | none => .factory

/-- A line after a reset: IN, no edges, its debounced level the pin level (R186). -/
def Line.afterReset (x : Line) : Line := ⟨.input, x.pin, x.pin, 0, false⟩

/-- Every block at its reset values (R192), with the glyph RAM, the link and the programming state that the kind of
reset leaves. -/
def State.resetBlocks (s : State) (glyphs : Table GlyphRow) (f : Fli) (p : Option Programming) : State :=
  { s with
    fli := f
    cst := .reset
    itb := .reset
    upq := .reset
    cme := .reset
    fau := .reset
    sco := .reset
    gcu := .reset glyphs s.loadProfile
    dtg := .reset s.loadProfile.format
    lnu := ⟨Table.adjust .idle (fun _ x => x.afterReset) s.lnu.lines⟩
    pst := { s.pst with programming := p, loaded := s.loadNumber } }

/-- The link after power-on or hard reset (R183, R193); HRDY is the pin's. -/
def Fli.hardReset (f : Fli) : Fli := { Fli.reset with hrdy := f.hrdy }

/-- The link after a soft reset (R183, R192, R193): as after a hard reset, but the place of a SAVE in flight stays
reserved and RDY follows the emptied queue at once. -/
def Fli.softReset (f : Fli) : Fli :=
  { Fli.reset with hrdy := f.hrdy, reserved := f.reserved, rdyStart := .following }

/-- POWER_ON_RESET (R192, R193): glyph RAM cleared, a SAVE under programming aborted. Frame start 1 is the
FRAME_START that comes next (log 10). -/
def execPowerOnReset (s : State) : Host.Outcome State Fault Refusal :=
  .next (s.resetBlocks [] s.fli.hardReset none)

/-- HARD_RESET (R192): RST asserted and released; as power-on, with the glyph RAM kept (log 13). -/
def execHardReset (s : State) : Host.Outcome State Fault Refusal :=
  .next (s.resetBlocks s.gcu.glyphs s.fli.hardReset none)

/-- RESET (R192): the queues emptied, every block reset, the programming state and its reserved place kept; the reply
is the first entry of the output queue. -/
def resetAction (_ : NoOps) (s : State) : Answer :=
  accept .empty (s.resetBlocks s.gcu.glyphs s.fli.softReset s.pst.programming)

/-- RESET (R192). -/
def execReset (tag : Byte) (body : Body NoOps) (s : State) : Host.Outcome State Fault Refusal :=
  s.serve ⟨0x3F, tag, body.bytes encodeEmpty⟩ (withOps body resetAction)

/-- RDY_RISE (R193): 2 ms after frame start 1, RDY begins to follow the input record queue; at another time it does
not come (log 3). -/
def execRdyRise (s : State) : Host.Outcome State Fault Refusal :=
  match s.fli.rdyStart with
  | .timing => .next (s.setFli { s.fli with rdyStart := .following })
  | .waitFrame => .next s
  | .following => .next s

end Sys2Proof.Machine
end

