-- ==== Sys2Proof/Machine/Pages.lean ====
section
/-!
DEFINITION. The requests of the cell store (chapter 01): PAGE, UNPAGE, TEXT, FILL, QCELLS.
-/

namespace Sys2Proof.Machine

/-- Two runs share a cell (R4). -/
def runsMeet (a m b n : Nat) : Bool := decide (a < b + n) && decide (b < a + m)

/-- Some defined page's run meets the run of `n` cells from `base` on (R4). -/
def State.pageOverlap (s : State) (base n : Nat) : Bool :=
  (List.range Config.pageCount).any fun i =>
    match s.page i with
    | some p => runsMeet base n p.base p.size
    | none => false

/-- PAGE (R4, R5). -/
def pageAction (o : PageOps) (s : State) : Answer :=
  match upTo? 15 o.id, between? 1 128 o.rows, between? 1 200 o.cols with
  | some id, some rows, some cols =>
    if (s.page id).isSome then refuse .inUse s
    else if Config.cellCount < o.base.toNat + rows * cols then refuse .range s
    else if s.pageOverlap o.base.toNat (rows * cols) then refuse .overlap s
    else
      accept .empty ((s.setPages (Table.set none s.cst.pages id (some ⟨o.base.toNat, rows, cols⟩))).setCells
        (Table.clearRun s.cst.cells o.base.toNat (rows * cols)))
  | _, _, _ => refuse .badValue s

/-- PAGE (R4, R5). -/
def execPage (tag : Byte) (body : Body PageOps) (s : State) : Host.Outcome State Fault Refusal :=
  s.serve ⟨0x10, tag, body.bytes encodePage⟩ (withOps body pageAction)

/-- Some pane of a copy of the composition names page `id`, whatever its priority (R6). -/
def Composition.namesPage (c : Composition) (id : Nat) : Bool :=
  (List.range 8).any fun p => (c.pane p).page == some id

/-- UNPAGE (R6, R7): the cells of the run are left as they are. -/
def unpageAction (o : UnpageOps) (s : State) : Answer :=
  match upTo? 15 o.id with
  | none => refuse .badValue s
  | some id =>
    if (s.page id).isNone then refuse .noPage s
    else if s.anyPlacement fun p => p.page == id then refuse .inUse s
    else if s.sco.staged.namesPage id || s.sco.active.namesPage id then refuse .inUse s
    else accept .empty (s.setPages (Table.set none s.cst.pages id none))

/-- UNPAGE (R6). -/
def execUnpage (tag : Byte) (body : Body UnpageOps) (s : State) : Host.Outcome State Fault Refusal :=
  s.serve ⟨0x11, tag, body.bytes encodeUnpage⟩ (withOps body unpageAction)

/-- TEXT (R8, R9). -/
def textAction (o : TextOps) (s : State) : Answer :=
  match upTo? 15 o.id, paletteIndex? o.fg, paletteIndex? o.bg, CellFlags.ofByte? o.flags with
  | some id, some fg, some bg, some flags =>
    if o.codes.length = 0 ∨ 200 < o.codes.length then refuse .badValue s
    else
      match s.page id with
      | none => refuse .noPage s
      | some pg =>
        if o.row.toNat < pg.rows ∧ o.col.toNat + o.codes.length ≤ pg.cols then
          accept .empty (s.writeCells (pg.cellIndex o.row.toNat o.col.toNat)
            (o.codes.map fun c => ⟨c, fg, bg, flags, none, false⟩))
        else refuse .range s
  | _, _, _, _ => refuse .badValue s

/-- TEXT (R8, R9). -/
def execText (tag : Byte) (body : Body TextOps) (s : State) : Host.Outcome State Fault Refusal :=
  s.serve ⟨0x12, tag, body.bytes encodeText⟩ (withOps body textAction)

/-- A rectangle of a page set to one cell, row by row (R11). -/
def State.fillRect (s : State) (pg : Page) (top left rows cols : Nat) (c : Cell) : State :=
  (List.range rows).foldl (fun s r => s.writeCells (pg.cellIndex (top + r) left) (List.replicate cols c)) s

/-- FILL (R10, R11). -/
def fillAction (o : FillOps) (s : State) : Answer :=
  match upTo? 15 o.id, between? 1 128 o.rows, between? 1 200 o.cols, paletteIndex? o.fg, paletteIndex? o.bg,
    CellFlags.ofByte? o.flags with
  | some id, some rows, some cols, some fg, some bg, some flags =>
    match s.page id with
    | none => refuse .noPage s
    | some pg =>
      if o.top.toNat + rows ≤ pg.rows ∧ o.left.toNat + cols ≤ pg.cols then
        accept .empty (s.fillRect pg o.top.toNat o.left.toNat rows cols ⟨o.code, fg, bg, flags, none, false⟩)
      else refuse .range s
  | _, _, _, _, _, _ => refuse .badValue s

/-- FILL (R10, R11). -/
def execFill (tag : Byte) (body : Body FillOps) (s : State) : Host.Outcome State Fault Refusal :=
  s.serve ⟨0x13, tag, body.bytes encodeFill⟩ (withOps body fillAction)

/-- `n` cells from index `a` on. -/
def State.readCells (s : State) (a n : Nat) : List Cell := (List.range n).map fun j => s.cell (a + j)

/-- QCELLS (R14): it changes no state. -/
def qcellsAction (o : QcellsOps) (s : State) : Answer :=
  match upTo? 15 o.id, between? 1 64 o.count with
  | some id, some n =>
    match s.page id with
    | none => refuse .noPage s
    | some pg =>
      if o.row.toNat < pg.rows ∧ o.col.toNat + n ≤ pg.cols then
        accept (.cells (s.readCells (pg.cellIndex o.row.toNat o.col.toNat) n)) s
      else refuse .range s
  | _, _ => refuse .badValue s

/-- QCELLS (R14). -/
def execQcells (tag : Byte) (body : Body QcellsOps) (s : State) : Host.Outcome State Fault Refusal :=
  s.serve ⟨0x14, tag, body.bytes encodeQcells⟩ (withOps body qcellsAction)

end Sys2Proof.Machine
end

