-- ==== Sys2Proof/Machine/Instruments.lean ====
section
/-!
DEFINITION. The requests of the instrument table (chapter 02): DEFINE, DROP, LAYOUT, PLACE, UNPLACE, QSLOT.
-/

namespace Sys2Proof.Machine

/-- Some defined slot holds the symbol (R20, R21). -/
def State.symbolTaken (s : State) (symbol : List Byte) : Bool :=
  s.itb.slots.any fun e => e.2.defined && e.2.symbol == symbol

/-- DEFINE (R21, R22). -/
def defineAction (o : DefineOps) (s : State) : Answer :=
  match Scale.ofBytes? o.scaleKind o.scaleParam, upTo? 15 o.flashStyle with
  | some sc, some fs =>
    if o.symbol.length = 0 ∨ 12 < o.symbol.length ∨ !o.symbol.all printable then refuse .badValue s
    else if (s.slot o.slot.toNat).defined then refuse .inUse s
    else if s.symbolTaken o.symbol then refuse .duplicate s
    else
      accept .empty (s.setSlot o.slot.toNat
        { Slot.empty with
          state := .quiet, symbol := o.symbol, scale := some sc, flashStyle := fs, stale := o.stale.toNat })
  | _, _ => refuse .badValue s

/-- DEFINE (R21, R22). -/
def execDefine (tag : Byte) (body : Body DefineOps) (s : State) : Host.Outcome State Fault Refusal :=
  s.serve ⟨0x20, tag, body.bytes encodeDefine⟩ (withOps body defineAction)

/-- The numbers of the flash entries of slot `n` (R24). -/
def State.flashesOf (s : State) (n : Nat) : List Nat :=
  (s.fau.flash.filter fun e => e.2.any fun x => x.slot == n).map (·.1)

/-- An accepted DROP of slot `n` (R24, R25). -/
def State.dropSlot (s : State) (n : Nat) : State :=
  let s1 := s.setUpq { s.upq with
    pool := Table.clearRun s.upq.pool (poolKey n 0) 8
    dirty := s.upq.dirty.filter (· != n) }
  let s2 := (s1.flashesOf n).foldl State.endFlash s1
  let s3 := s2.setFau { s2.fau with alerts := s2.fau.alerts.filter fun a => a.slot != n }
  let s4 := (s3.slot n).placements.foldl State.blankPlacement s3
  s4.setSlot n .empty

/-- DROP (R23 to R25). -/
def dropAction (o : DropOps) (s : State) : Answer :=
  let n := o.slot.toNat
  if (s.slot n).defined then
    accept (.dropped (s.pendingOf n).length (s.fau.alerts.countP fun a => a.slot == n)) (s.dropSlot n)
  else refuse .noSlot s

/-- DROP (R23). -/
def execDrop (tag : Byte) (body : Body DropOps) (s : State) : Host.Outcome State Fault Refusal :=
  s.serve ⟨0x21, tag, body.bytes encodeDrop⟩ (withOps body dropAction)

/-- The widths a source may have (R26, R28). -/
def Source.widthOk (src : Source) (w : Nat) : Bool :=
  match src with
  | .symbol => decide (1 ≤ w) && decide (w ≤ 12)
  | .arrow => w == 1
  | .field _ => decide (1 ≤ w) && decide (w ≤ 16)
  | .chg => decide (1 ≤ w) && decide (w ≤ 16)
  | .pct => decide (1 ≤ w) && decide (w ≤ 16)

/-- A column whose parts are all in range (R28, check 2). -/
def column? (c : ColumnOps) : Option Column := do
  let src ← Source.ofByte? c.source
  let off ← upTo? 199 c.offset
  let al ← Align.ofByte? c.align
  let st ← upTo? 15 c.style
  let sep ← onOff? c.sep
  let md ← upTo? 6 c.maxdec
  let co ← onOff? c.compress
  if src.widthOk c.width.toNat then some ⟨src, off, c.width.toNat, al, st, sep, md, co⟩ else none

/-- Some two columns of the list meet `p`, each earlier one against each later one. -/
def anyPair (p : Column → Column → Bool) : List Column → Bool
  | [] => false
  | c :: rest => rest.any (p c) || anyPair p rest

/-- The extent of a layout (R26). -/
def extent (cs : List Column) : Nat := (cs.map fun c => c.offset + c.width).foldl max 0

/-- LAYOUT (R28, R29). -/
def layoutAction (o : LayoutOps) (s : State) : Answer :=
  match upTo? 15 o.layout, o.columns.mapM column? with
  | some l, some cs =>
    if cs.length = 0 ∨ 12 < cs.length then refuse .badValue s
    else if 200 < extent cs then refuse .range s
    else if anyPair (fun a b => a.source == b.source) cs then refuse .duplicate s
    else if anyPair (fun a b => runsMeet a.offset a.width b.offset b.width) cs then refuse .overlap s
    else if s.anyPlacement fun p => p.layout == l then refuse .inUse s
    else accept (.extent (extent cs)) (s.setLayouts (Table.set none s.itb.layouts l (some cs)))
  | _, _ => refuse .badValue s

/-- LAYOUT (R28, R29). -/
def execLayout (tag : Byte) (body : Body LayoutOps) (s : State) : Host.Outcome State Fault Refusal :=
  s.serve ⟨0x22, tag, body.bytes encodeLayout⟩ (withOps body layoutAction)

/-- The spans of the entry with the span of a new placement of its slot `n` appended (R33, R102). -/
def State.extendSpans (s : State) (n : Nat) (p : Placement) (e : Option FlashEntry) : Option FlashEntry :=
  match e with
  | none => none
  | some x => if x.slot = n then some { x with spans := x.spans ++ (s.placementSpan x.field p).toList } else e

/-- An accepted PLACE (R33). -/
def State.addPlacement (s : State) (n : Nat) (p : Placement) : State :=
  let r := s.slot n
  let s1 := s.setSlot n { r with placements := r.placements ++ [p] }
  let s2 := s1.setFau { s1.fau with flash := Table.adjust none (fun _ e => s1.extendSpans n p e) s1.fau.flash }
  s2.paint n p

/-- PLACE (R32, R33). -/
def placeAction (o : PlaceOps) (s : State) : Answer :=
  let n := o.slot.toNat
  match upTo? 15 o.page, upTo? 127 o.row, upTo? 199 o.col, upTo? 15 o.layout with
  | some page, some row, some col, some l =>
    if (s.slot n).defined then
      match s.page page with
      | none => refuse .noPage s
      | some pg =>
        match s.layout l with
        | none => refuse .noLayout s
        | some cs =>
          if row < pg.rows ∧ col + extent cs ≤ pg.cols then
            if (s.slot n).placements.length < 4 ∧ s.placementsUsed < Config.placementPool then
              accept (.index (s.slot n).placements.length) (s.addPlacement n ⟨page, row, col, l⟩)
            else refuse .full s
          else refuse .range s
    else refuse .noSlot s
  | _, _, _, _ => refuse .badValue s

/-- PLACE (R32, R33). -/
def execPlace (tag : Byte) (body : Body PlaceOps) (s : State) : Host.Outcome State Fault Refusal :=
  s.serve ⟨0x23, tag, body.bytes encodePlace⟩ (withOps body placeAction)

/-- Placement `i` of the list shows field `f` (R102). -/
def State.showsField (s : State) (f : Field) (p : Placement) : Bool := (s.placementSpan f p).isSome

/-- The spans of an entry of slot `n` without the span of its placement `i` (R35, R102): spans stand in the order of
the placements that show the field. -/
def State.cutSpans (s : State) (n i : Nat) (e : Option FlashEntry) : Option FlashEntry :=
  match e with
  | none => none
  | some x =>
    if x.slot = n ∧ ((s.slot n).placements[i]?).any (s.showsField x.field) then
      some { x with spans := x.spans.eraseIdx (((s.slot n).placements.take i).countP (s.showsField x.field)) }
    else e

/-- An accepted UNPLACE of placement `i`, the record `p` (R35). -/
def State.removePlacement (s : State) (n i : Nat) (p : Placement) : State :=
  let s1 := s.blankPlacement p
  let s2 := s1.setFau { s1.fau with flash := Table.adjust none (fun _ e => s1.cutSpans n i e) s1.fau.flash }
  let r := s2.slot n
  s2.setSlot n { r with placements := r.placements.eraseIdx i }

/-- UNPLACE (R34, R35). -/
def unplaceAction (o : UnplaceOps) (s : State) : Answer :=
  let n := o.slot.toNat
  match upTo? 3 o.index with
  | none => refuse .badValue s
  | some i =>
    if (s.slot n).defined then
      match (s.slot n).placements[i]? with
      | none => refuse .range s
      | some p => accept .empty (s.removePlacement n i p)
    else refuse .noSlot s

/-- UNPLACE (R34, R35). -/
def execUnplace (tag : Byte) (body : Body UnplaceOps) (s : State) : Host.Outcome State Fault Refusal :=
  s.serve ⟨0x24, tag, body.bytes encodeUnplace⟩ (withOps body unplaceAction)

/-- QSLOT (R36): any slot may be read, and its conflation count goes to 0. -/
def qslotAction (o : QslotOps) (s : State) : Answer :=
  let n := o.slot.toNat
  let r := s.slot n
  accept (.slot r ((s.pendingOf n).map fun e => e.1.num) (s.upq.dirty.findIdx? (· == n)))
    (s.setSlot n { r with conflation := 0 })

/-- QSLOT (R36). -/
def execQslot (tag : Byte) (body : Body QslotOps) (s : State) : Host.Outcome State Fault Refusal :=
  s.serve ⟨0x29, tag, body.bytes encodeQslot⟩ (withOps body qslotAction)

end Sys2Proof.Machine
end

