-- ==== Sys2Proof/Machine/Quotes.lean ====
section
/-!
DEFINITION. The requests POST (chapter 03), LIMIT and ACK (chapter 06).
-/

namespace Sys2Proof.Machine

/-- A field number occurs twice (R40, check 5). -/
def duplicateField : List PairOps → Bool
  | [] => false
  | p :: rest => rest.any (fun q => q.field == p.field) || duplicateField rest

/-- A pair's value lies in the range of its field (R40, check 6; R41). -/
def pairInRange (p : PairOps) : Bool :=
  match Field.ofNat? p.field.toNat with
  | some f => f.inRange p.value.toInt
  | none => false

/-- The pairs whose slot and field have no entry in the pool (R42). -/
def State.newPairs (s : State) (n : Nat) (ps : List PairOps) : Nat :=
  ps.countP fun p => (s.pendingValue n p.field.toNat).isNone

/-- The free entries of the pool (R37). -/
def Upq.free (u : Upq) : Nat := Config.pendingPool - u.pool.length

/-- The pool with the pairs of a POST applied (R44). -/
def applyPairs (n : Nat) (pool : Table (Option Int)) (ps : List PairOps) : Table (Option Int) :=
  ps.foldl (fun t p => Table.set none t (poolKey n p.field.toNat) (some p.value.toInt)) pool

/-- An accepted POST (R44, R45): the pairs applied, the conflation count raised, the slot put at the tail of the dirty
list if it had no entry. -/
def State.postPairs (s : State) (n : Nat) (ps : List PairOps) : State :=
  let merged := ps.length - s.newPairs n ps
  let r := s.slot n
  let u := { s.upq with
    pool := applyPairs n s.upq.pool ps
    dirty := if (s.pendingOf n).isEmpty then s.upq.dirty ++ [n] else s.upq.dirty }
  (s.setUpq u).setSlot n { r with conflation := min (r.conflation + merged) Config.countMax }

/-- A POST refused for want of room (R43). -/
def State.pendingFull (s : State) : State :=
  s.setUpq { s.upq with overload := true, clean := 0, mark := true }

/-- POST with a body that holds the slot number `n` (R40): `ps` are its pairs, if the body has the required length. -/
def postTo (n : Nat) (ps : Option (List PairOps)) (s : State) : Answer :=
  if (s.slot n).defined then
    match ps with
    | none => refuse .badLength s
    | some ps =>
      if ps.length = 0 ∨ 8 < ps.length then refuse .badLength s
      else if ps.any fun p => 8 ≤ p.field.toNat then refuse .badValue s
      else if duplicateField ps then refuse .duplicate s
      else if !ps.all pairInRange then refuse .badValue s
      else if s.upq.free < s.newPairs n ps then ⟨s.pendingFull, some (.pendingFull, .empty)⟩
      else accept (.merged (ps.length - s.newPairs n ps)) (s.postPairs n ps)
  else refuse .noSlot s

/-- POST (R40): a body too short for the slot number and the pair count is refused before the slot is looked at. -/
def postAction (body : Body PostOps) (s : State) : Answer :=
  match body with
  | .ops o => postTo o.slot.toNat (some o.pairs) s
  | .malformed (slot :: _ :: _) => postTo slot.toNat none s
  | .malformed _ => refuse .badLength s

/-- POST (R40 to R46). -/
def execPost (tag : Byte) (body : Body PostOps) (s : State) : Host.Outcome State Fault Refusal :=
  s.serve ⟨0x25, tag, body.bytes encodePost⟩ (postAction body)

/-- The actions of LIMIT: ARM 0, DISARM 1 (R184). -/
inductive LimitAction where
  | arm
  | disarm
deriving DecidableEq, Repr

def LimitAction.ofByte? (b : Byte) : Option LimitAction :=
  match b.toNat with
  | 0 => some .arm
  | 1 => some .disarm
  | _ => none

/-- The body is of the length its action requires; an unknown action passes with either length (R111). -/
def limitLengthOk (o : LimitOps) : Bool :=
  match LimitAction.ofByte? o.action with
  | some .arm => o.level.isSome
  | some .disarm => o.level.isNone
  | none => true

/-- An accepted LIMIT that leaves `l` in the limit `side` of slot `n` (R112). -/
def State.setLimit (s : State) (n : Nat) (side : Side) (l : Limit) : Answer :=
  let t := s.setSlot n ((s.slot n).setLimit side l)
  accept (.limit l t.limitCount) t

/-- LIMIT (R111, R112). -/
def limitAction (o : LimitOps) (s : State) : Answer :=
  let n := o.slot.toNat
  if limitLengthOk o then
    match Side.ofByte? o.limit, LimitAction.ofByte? o.action with
    | some side, some act =>
      if (s.slot n).defined then
        match (s.slot n).limit side, act with
        | .fired _, _ => refuse .fired s
        | .disarmed, .arm =>
          if s.limitCount < Config.limitCount then s.setLimit n side (.armed (o.level.getD 0).toInt)
          else refuse .full s
        | .armed _, .arm => s.setLimit n side (.armed (o.level.getD 0).toInt)
        | .armed _, .disarm => s.setLimit n side .disarmed
        | .disarmed, .disarm => s.setLimit n side .disarmed
      else refuse .noSlot s
    | _, _ => refuse .badValue s
  else refuse .badLength s

/-- LIMIT (R111, R112). -/
def execLimit (tag : Byte) (body : Body LimitOps) (s : State) : Host.Outcome State Fault Refusal :=
  s.serve ⟨0x26, tag, body.bytes encodeLimit⟩ (withOps body limitAction)

/-- ACK (R115). -/
def ackAction (o : AckOps) (s : State) : Answer :=
  let n := o.slot.toNat
  match Side.ofByte? o.limit with
  | none => refuse .badValue s
  | some side =>
    if (s.slot n).defined then
      if ((s.slot n).limit side).isFired then
        let t := s.acknowledge n side
        accept (.left t.fau.alerts.length) t
      else refuse .notFired s
    else refuse .noSlot s

/-- ACK (R115). -/
def execAck (tag : Byte) (body : Body AckOps) (s : State) : Host.Outcome State Fault Refusal :=
  s.serve ⟨0x27, tag, body.bytes encodeAck⟩ (withOps body ackAction)

end Sys2Proof.Machine
end

