-- ==== Sys2Proof/Machine/Screen.lean ====
section
/-!
DEFINITION. The requests of the Screen Compositor (chapter 07): PANE, SCROLL, CLIP, CRAWL, CRAWLCTL; and the
resolution of a screen cell.
-/

namespace Sys2Proof.Machine

/-- The page part of a PANE request for a PAGE pane: a page id, or NONE with priority 0 (R124, R185). -/
def panePage? (page priority : Byte) : Option (Option Nat) :=
  if page = 0xFF then if priority = 0 then some none else none
  else (upTo? 15 page).map some

/-- The pane record of a PANE request whose parts are all in range (R124, check 2; R125). -/
def paneRecord? (o : PaneOps) : Option Pane := do
  let kind ← PaneKind.ofByte? o.kind
  let srcRow ← upTo? 127 o.srcRow
  let srcCol ← upTo? 199 o.srcCol
  let scrRow ← upTo? 63 o.scrRow
  let scrCol ← upTo? 159 o.scrCol
  let rows ← between? 1 64 o.rows
  let cols ← between? 1 160 o.cols
  let priority ← upTo? 7 o.priority
  let w0 ← ClipMode.ofByte? o.w0
  let w1 ← ClipMode.ofByte? o.w1
  let logic ← Logic.ofByte? o.logic
  match kind with
  | .crawl => some ⟨.crawl, none, 0, 0, scrRow, scrCol, rows, cols, priority, w0, w1, logic⟩
  | .page =>
    let page ← panePage? o.page o.priority
    some ⟨.page, page, srcRow, srcCol, scrRow, scrCol, rows, cols, priority, w0, w1, logic⟩

/-- Some pane other than `p` of the copy is of kind CRAWL (R124, check 5). -/
def Composition.otherCrawl (c : Composition) (p : Nat) : Bool :=
  (List.range 8).any fun q => q != p && (c.pane q).kind == .crawl

/-- A pane record of the staged copy replaced, and in BANNER the banner end set (R125). -/
def Sco.stagePane (c : Sco) (p : Nat) (r : Pane) : Sco :=
  { c with
    staged := { c.staged with panes := Table.set .hidden c.staged.panes p r }
    bannerEnd := c.bannerEnd || c.display == .banner }

/-- PANE (R124, R125). -/
def paneAction (o : PaneOps) (s : State) : Answer :=
  match upTo? 7 o.pane, paneRecord? o with
  | some p, some r =>
    if r.kind = .crawl ∧ r.rows ≠ 1 then refuse .range s
    else if r.page.any fun id => (s.page id).isNone then refuse .noPage s
    else if r.kind = .crawl ∧ s.sco.staged.otherCrawl p then refuse .inUse s
    else accept .empty (s.setSco (s.sco.stagePane p r))
  | _, _ => refuse .badValue s

/-- PANE (R124, R125). -/
def execPane (tag : Byte) (body : Body PaneOps) (s : State) : Host.Outcome State Fault Refusal :=
  s.serve ⟨0x18, tag, body.bytes encodePane⟩ (withOps body paneAction)

/-- SCROLL (R126): the source origin of a staged PAGE pane. -/
def scrollAction (o : ScrollOps) (s : State) : Answer :=
  match upTo? 7 o.pane, upTo? 127 o.row, upTo? 199 o.col with
  | some p, some row, some col =>
    let r := s.sco.staged.pane p
    if r.kind = .page then
      accept .empty (s.setSco { s.sco with
        staged := { s.sco.staged with
          panes := Table.set .hidden s.sco.staged.panes p { r with srcRow := row, srcCol := col } } })
    else refuse .badValue s
  | _, _, _ => refuse .badValue s

/-- SCROLL (R126). -/
def execScroll (tag : Byte) (body : Body ScrollOps) (s : State) : Host.Outcome State Fault Refusal :=
  s.serve ⟨0x19, tag, body.bytes encodeScroll⟩ (withOps body scrollAction)

/-- The copy with window W0 (`false`) or W1 (`true`) replaced. -/
def Composition.setWindow (c : Composition) (second : Bool) (w : Window) : Composition :=
  if second then { c with w1 := w } else { c with w0 := w }

/-- CLIP (R127): W0 is 0, W1 is 1. -/
def clipAction (o : ClipOps) (s : State) : Answer :=
  match onOff? o.window, upTo? 63 o.top, upTo? 159 o.left, upTo? 64 o.rows, upTo? 160 o.cols with
  | some second, some top, some left, some rows, some cols =>
    accept .empty (s.setSco { s.sco with staged := s.sco.staged.setWindow second ⟨top, left, rows, cols⟩ })
  | _, _, _, _, _ => refuse .badValue s

/-- CLIP (R127). -/
def execClip (tag : Byte) (body : Body ClipOps) (s : State) : Host.Outcome State Fault Refusal :=
  s.serve ⟨0x1A, tag, body.bytes encodeClip⟩ (withOps body clipAction)

/-- Characters joined at the tail of the ring (R134); text put into the empty ring with the lead at 0 has entered, and
the next step leaves it (R138, row 1; log 29). -/
def Sco.append (c : Sco) (text : List CrawlChar) : Sco :=
  { c with ring := c.ring ++ text, entered := c.entered || (c.ring.isEmpty && c.lead == 0) }

/-- CRAWL (R134). -/
def crawlAction (o : CrawlOps) (s : State) : Answer :=
  match paletteIndex? o.fg, paletteIndex? o.bg with
  | some fg, some bg =>
    if o.codes.length = 0 ∨ 240 < o.codes.length then refuse .badValue s
    else if Config.ringSize < s.sco.ring.length + o.codes.length then refuse .full s
    else
      let t := s.setSco (s.sco.append (o.codes.map fun c => ⟨c, fg, bg⟩))
      accept (.ring t.sco.ring.length) t
  | _, _ => refuse .badValue s

/-- CRAWL (R134). -/
def execCrawl (tag : Byte) (body : Body CrawlOps) (s : State) : Host.Outcome State Fault Refusal :=
  s.serve ⟨0x1B, tag, body.bytes encodeCrawl⟩ (withOps body crawlAction)

/-- The crawl cleared (R135): empty ring, lead at the active crawl pane's cols or 0, offset 0. -/
def Sco.clearCrawl (c : Sco) : Sco :=
  { c with
    ring := []
    lead :=
      match c.active.crawlPane with
      | some p => p.cols
      | none => 0
    offset := 0
    entered := false }

/-- CRAWLCTL (R135). -/
def crawlctlAction (o : CrawlctlOps) (s : State) : Answer :=
  match upTo? 8 o.speed, paletteIndex? o.blank, onOff? o.clear with
  | some speed, some blank, some clear =>
    let c := { s.sco with speed := speed, blank := blank }
    let t := s.setSco (if clear then c.clearCrawl else c)
    accept (.ring t.sco.ring.length) t
  | _, _, _ => refuse .badValue s

/-- CRAWLCTL (R135). -/
def execCrawlctl (tag : Byte) (body : Body CrawlctlOps) (s : State) : Host.Outcome State Fault Refusal :=
  s.serve ⟨0x1C, tag, body.bytes encodeCrawlctl⟩ (withOps body crawlctlAction)

/-! ## Resolving a screen cell (R122, R128 to R132, R137) -/

/-- The window holds screen cell `r`, `c` (R122). -/
def Window.holds (w : Window) (r c : Nat) : Bool :=
  decide (w.top ≤ r) && decide (r < w.top + w.rows) && decide (w.left ≤ c) && decide (c < w.left + w.cols)

/-- Whether a window cuts a pane in a mode, `none` where it plays no part (R122). -/
def ClipMode.cut? (m : ClipMode) (inWindow : Bool) : Option Bool :=
  match m with
  | .off => none
  | .inside => some inWindow
  | .outside => some (!inWindow)

/-- Whether a pane is cut at screen cell `r`, `c` (R122). -/
def Composition.cut (k : Composition) (p : Pane) (r c : Nat) : Bool :=
  match p.w0.cut? (k.w0.holds r c), p.w1.cut? (k.w1.holds r c) with
  | none, none => false
  | some a, none => a
  | none, some b => b
  | some a, some b =>
    match p.logic with
    | .and => a && b
    | .or => a || b

/-- The screen rectangle of a pane holds screen cell `r`, `c` (R121). -/
def Pane.covers (p : Pane) (r c : Nat) : Bool :=
  decide (p.scrRow ≤ r) && decide (r < p.scrRow + p.rows) && decide (p.scrCol ≤ c) && decide (c < p.scrCol + p.cols)

/-- The pane is a candidate for screen cell `r`, `c` (R129). -/
def Composition.candidate (k : Composition) (p : Pane) (r c : Nat) : Bool :=
  decide (1 ≤ p.priority) && p.covers r c && !k.cut p r c

/-- The first of the panes with the highest priority. -/
def bestPane : List Pane → Option Pane
  | [] => none
  | p :: rest =>
    match bestPane rest with
    | none => some p
    | some q => if q.priority ≤ p.priority then some p else some q

/-- The pane that shows screen cell `r`, `c`: the candidate of highest priority, of equals the one of lower number
(R129). -/
def Composition.winner (k : Composition) (r c : Nat) : Option Pane :=
  bestPane (((List.range 8).map k.pane).filter fun p => k.candidate p r c)

/-- The screen row lies in the partial band and on the grid (R128, R165). -/
def Dtg.inBand (d : Dtg) (r : Nat) : Bool :=
  match d.activeArea with
  | .full => true
  | .band first last => decide (first ≤ r) && decide (r ≤ last) && decide (r < d.activeFormat.gridRows)

/-- What a screen cell shows (R129 to R132, R137). -/
inductive Shown where
  | back
  | cell (index : Nat)
  | banner (c : Byte)
  | crawl (x : Nat)
deriving DecidableEq, Repr

/-- The banner character of screen cell `r`, `c`, if the banner line covers it (R132). -/
def State.bannerAt (s : State) (r c : Nat) : Option Byte :=
  let n := s.gcu.banner.length
  let f := s.dtg.activeFormat
  let left := (f.gridCols - n) / 2
  if r = f.gridRows / 2 ∧ left ≤ c ∧ c < left + n then s.gcu.banner[c - left]? else none

/-- What a winning pane shows at screen cell `r`, `c` (R130, R137); `x` of a crawl is the pane's pixel column of the
cell's left pixel. -/
def State.paneShows (s : State) (p : Pane) (r c : Nat) : Shown :=
  match p.kind with
  | .crawl => .crawl ((c - p.scrCol) * s.dtg.activeFormat.cellW)
  | .page =>
    let pr := p.srcRow + (r - p.scrRow)
    let pc := p.srcCol + (c - p.scrCol)
    match p.page.bind s.page with
    | some pg => if pr < pg.rows ∧ pc < pg.cols then .cell (pg.cellIndex pr pc) else .back
    | none => .back

/-- What screen cell `r`, `c` shows (R128 to R132). -/
def State.shown (s : State) (r c : Nat) : Shown :=
  if s.dtg.inBand r then
    match s.sco.display with
    | .banner =>
      match s.bannerAt r c with
      | some b => .banner b
      | none => .back
    | .panes =>
      match s.sco.active.winner r c with
      | some p => s.paneShows p r c
      | none => .back
  else .back

end Sys2Proof.Machine
end

