-- ==== Sys2Proof/Machine/Colour.lean ====
section
/-!
DEFINITION. The Glyph and Colour Unit (chapter 08): the requests GLYPHS, FONTAREA, PALETTE, STYLE, SCREEN; the glyph of
a code, the colour path, and the panel signals.
-/

namespace Sys2Proof.Machine

/-- The stored pixels of a row's byte form: bits 15 to 4 (R144, R184). -/
def storedRow (w : U16) : GlyphRow := w.extractLsb' 4 12

/-- GLYPHS (R143, R144). -/
def glyphsAction (o : GlyphsOps) (s : State) : Answer :=
  match between? 1 3 o.bank with
  | none => refuse .badValue s
  | some bank =>
    if o.glyphs.length = 0 ∨ 16 < o.glyphs.length then refuse .badValue s
    else if 256 < o.first.toNat + o.glyphs.length then refuse .range s
    else if s.dtg.power = .asleep then refuse .asleep s
    else
      accept .empty (s.setGcu { s.gcu with
        glyphs := Table.writeRun 0 s.gcu.glyphs (glyphKey bank o.first.toNat 0) (o.glyphs.flatten.map storedRow) })

/-- GLYPHS (R143, R144). -/
def execGlyphs (tag : Byte) (body : Body GlyphsOps) (s : State) : Host.Outcome State Fault Refusal :=
  s.serve ⟨0x07, tag, body.bytes encodeGlyphs⟩ (withOps body glyphsAction)

/-- FONTAREA (R145). -/
def fontareaAction (o : FontAreaOps) (s : State) : Answer :=
  match upTo? 3 o.area, onOff? o.enabled, upTo? 3 o.bank with
  | some a, some en, some bank =>
    accept .empty (s.setGcu { s.gcu with
      areas := Table.set .disabled s.gcu.areas a ⟨en, o.start, o.mask, bank, o.base.toNat⟩ })
  | _, _, _ => refuse .badValue s

/-- FONTAREA (R145). -/
def execFontarea (tag : Byte) (body : Body FontAreaOps) (s : State) : Host.Outcome State Fault Refusal :=
  s.serve ⟨0x06, tag, body.bytes encodeFontarea⟩ (withOps body fontareaAction)

/-- PALETTE (R147). -/
def paletteAction (o : PaletteOps) (s : State) : Answer :=
  match paletteIndex? o.start with
  | none => refuse .badValue s
  | some st =>
    if o.entries.length = 0 ∨ 64 < o.entries.length then refuse .badValue s
    else if 64 < st + o.entries.length then refuse .range s
    else accept .empty (s.setGcu { s.gcu with palette := Table.writeRun black s.gcu.palette st o.entries })

/-- PALETTE (R147). -/
def execPalette (tag : Byte) (body : Body PaletteOps) (s : State) : Host.Outcome State Fault Refusal :=
  s.serve ⟨0x04, tag, body.bytes encodePalette⟩ (withOps body paletteAction)

/-- The class of a STYLE request whose parts are all in range (R148). -/
def styleRecord? (o : StyleOps) : Option Style := do
  let fg ← paletteIndex? o.fg
  let bg ← paletteIndex? o.bg
  let up ← paletteIndex? o.up
  let down ← paletteIndex? o.down
  let al ← paletteIndex? o.alert
  let f ← upTo? 60 o.f
  let dt ← onOff? o.dirtext
  let un ← onOff? o.und
  let bk ← onOff? o.blk
  let di ← onOff? o.dim
  some ⟨fg, bg, up, down, al, f, dt, ⟨un, bk, di⟩⟩

/-- STYLE (R148). -/
def styleAction (o : StyleOps) (s : State) : Answer :=
  match upTo? 15 o.cls, styleRecord? o with
  | some c, some st => accept .empty (s.setGcu { s.gcu with styles := Table.set .factory s.gcu.styles c st })
  | _, _ => refuse .badValue s

/-- STYLE (R148). -/
def execStyle (tag : Byte) (body : Body StyleOps) (s : State) : Host.Outcome State Fault Refusal :=
  s.serve ⟨0x05, tag, body.bytes encodeStyle⟩ (withOps body styleAction)

/-- SCREEN (R150). -/
def screenAction (o : ScreenOps) (s : State) : Answer :=
  match paletteIndex? o.back with
  | none => refuse .badValue s
  | some back =>
    if 40 < o.banner.length ∨ !o.banner.all printable then refuse .badValue s
    else accept .empty (s.setGcu { s.gcu with back := back, dim := o.dim.toNat, banner := o.banner })

/-- SCREEN (R150). -/
def execScreen (tag : Byte) (body : Body ScreenOps) (s : State) : Host.Outcome State Fault Refusal :=
  s.serve ⟨0x03, tag, body.bytes encodeScreen⟩ (withOps body screenAction)

/-! ## Glyphs (R142, R145, R146) -/

/-- A glyph: the blank glyph, one of the ROM, or one of a RAM bank (R142). -/
inductive Glyph where
  | blank
  | rom (g : Nat)
  | ram (bank g : Nat)
deriving DecidableEq, Repr

/-- The replacement glyph, ROM glyph 0x7F (R142). -/
def replacement : Glyph := .rom 0x7F

/-- An enabled area matches the code (R145). -/
def FontArea.matches (a : FontArea) (c : Code) : Bool := a.enabled && ((c ^^^ a.start) &&& ~~~a.mask) == 0

/-- Glyph `i` of bank `b` (R146). -/
def bankGlyph (b i : Nat) : Glyph :=
  if 255 < i then replacement else if b = 0 then if i = 0 then .blank else .rom i else .ram b i

/-- The glyph of a code (R146). -/
def State.glyphOf (s : State) (c : Code) : Glyph :=
  if c = 0 then .blank
  else
    match ((List.range 4).map s.area).find? fun a => a.matches c with
    | some a => bankGlyph a.bank (a.base + (c &&& a.mask).toNat)
    | none => if c.toNat ≤ 0xFF then .rom c.toNat else replacement

/-- The pixel of a glyph at row `y`, column `x`, in the form for the format (R142). -/
def State.glyphPixel (s : State) (f : Format) (g : Glyph) (y x : Nat) : Bool :=
  match g with
  | .blank => false
  | .rom n => Config.romPixel (f == .f3) n y x
  | .ram b n => decide (x < 12) && (s.glyphRow b n y).getLsbD (11 - x)

/-! ## The colour path (R151 to R156) -/

/-- A working colour: three channels. -/
structure Rgb3 where
  r : Nat
  g : Nat
  b : Nat
deriving DecidableEq, Repr

/-- A channel-wise change of a working colour. -/
def Rgb3.map (f : Nat → Nat) (c : Rgb3) : Rgb3 := ⟨f c.r, f c.g, f c.b⟩

/-- A channel-wise combination of two working colours. -/
def Rgb3.zip (f : Nat → Nat → Nat) (c d : Rgb3) : Rgb3 := ⟨f c.r d.r, f c.g d.g, f c.b d.b⟩

/-- Palette lookup (R147, R151). -/
def State.lookup (s : State) (i : Nat) : Rgb3 :=
  let c := s.colour i
  ⟨c.r.toNat, c.g.toNat, c.b.toNat⟩

/-- The ratio of a moving flash (R152). -/
def flashRatio (len rem : Nat) : Nat := (31 * rem + len - 1) / len

/-- One channel of the blend (R152). -/
def blend (r bg c : Nat) : Nat := (bg * (32 - r) + c * r + 16) / 32

/-- Step 3 (R152, R153): the background under a flash reference. -/
def State.flashBg (s : State) (ref : Option Nat) (bg : Rgb3) : Rgb3 :=
  match ref.bind s.flashEntry with
  | none => bg
  | some e =>
    match e.kind with
    | .alert => if s.blink then s.lookup e.colour else bg
    | .moving _ len rem _ => Rgb3.zip (blend (flashRatio len rem)) bg (s.lookup e.colour)

/-- Step 4 (R154): D off every channel of a stale cell. -/
def State.staleDim (s : State) (stale : Bool) (c : Rgb3) : Rgb3 := if stale then c.map (· - s.gcu.dim) else c

/-- Step 8 (R156): the colour mode. -/
def ColourMode.apply (m : ColourMode) (c : Rgb3) : Rgb3 :=
  match m with
  | .full => c
  | .reduced => c.map fun v => if 128 ≤ v then 255 else 0

/-- Step 7 (R155): whether the pixel at row `y`, column `x` takes the foreground. -/
def State.foreground (s : State) (code : Code) (und : Bool) (y x : Nat) : Bool :=
  let f := s.dtg.activeFormat
  s.glyphPixel f (s.glyphOf code) y x || (und && y + 1 == f.cellH)

/-- The colour of a pixel of a cell record (R151 to R156). DESIGN CHOICE (log 31): the stale dim comes after the flash, as
step 4 of R154 has it, so at D 255 a flashing stale cell is black too; R150 excepts there a background that a flash
colours. -/
def State.cellPixel (s : State) (c : Cell) (y x : Nat) : Rgb3 :=
  let bg := s.staleDim c.stale (s.flashBg c.ref (s.lookup c.bg))
  let fg4 := s.staleDim c.stale (s.lookup c.fg)
  let fg5 := if c.flags.dim then fg4.map (· / 2) else fg4
  let fg := if c.flags.blk && !s.blink then bg else fg5
  s.dtg.activeColour.apply (if s.foreground c.code c.flags.und y x then fg else bg)

/-- A cell with no flags, no flash reference and no stale mark: crawl and banner characters (R132, R137, R151). -/
def plainCell (code : Code) (fg bg : Nat) : Cell := ⟨code, fg, bg, ⟨false, false, false⟩, none, false⟩

/-- A pixel that shows a palette colour alone: lookup and colour mode (R131, R156). -/
def State.flatPixel (s : State) (i : Nat) : Rgb3 := s.dtg.activeColour.apply (s.lookup i)

/-- The crawl pixel at pane pixel column `x` and pixel row `y` (R137). -/
def State.crawlPixel (s : State) (x y : Nat) : Rgb3 :=
  let w := s.dtg.activeFormat.cellW
  let i := (x + s.sco.offset) / w
  if i < s.sco.lead then s.flatPixel s.sco.blank
  else
    match s.sco.ring[i - s.sco.lead]? with
    | some c => s.cellPixel (plainCell c.code c.fg c.bg) y ((x + s.sco.offset) % w)
    | none => s.flatPixel s.sco.blank

/-- The pixel at row `y`, column `x` of screen cell `r`, `c` as it stands when it is sent (R128 to R157). -/
def State.cellAt (s : State) (r c y x : Nat) : Rgb3 :=
  match s.shown r c with
  | .back => s.flatPixel s.gcu.back
  | .cell k => s.cellPixel (s.cell k) y x
  | .banner b => s.cellPixel (plainCell (chr b.toNat) 15 s.gcu.back) y x
  | .crawl left => s.crawlPixel (left + x) y

/-! ## The panel (R162, R166, R168, R170) -/

/-- The pixel of the picture at line `py`, column `px` (R162). -/
def State.pixel (s : State) (py px : Nat) : Rgb3 :=
  let f := s.dtg.activeFormat
  s.cellAt (py / f.cellH) (px / f.cellW) (py % f.cellH) (px % f.cellW)

/-- Pixel line `py` of the picture, left to right, all of it read from the one state in which the line is sent (R157,
R162). -/
def State.pixelLine (s : State) (py : Nat) : List Rgb3 := (List.range s.dtg.activeFormat.pixelW).map (s.pixel py)

/-- Active lines are being sent: DE is high for their pixels (R162, R166, R168). -/
def State.sending (s : State) : Bool := s.dtg.power == .awake && s.dtg.phase == .scan

/-- HS and VS run (R166, R168, R170). -/
def State.syncRuns (s : State) : Bool := s.dtg.power == .awake

/-- The rate of PCLK in kHz, awake and asleep (R159, R170). -/
def State.pclk (s : State) : Nat := s.dtg.activeFormat.pixelClock

/-- The pixel line that line `l` of a frame sends, counted from the frame start; the blank lines send none (R159,
R160). -/
def Format.activeLine? (f : Format) (l : Nat) : Option Nat :=
  if f.blankLines ≤ l ∧ l < f.lines then some (l - f.blankLines) else none

/-- What the panel receives in one line: the marks of HS and VS, and PD for the pixels at which DE is high, left to
right (R170). -/
structure PanelLine where
  hs : Bool
  vs : Bool
  pixels : List Rgb3
deriving DecidableEq, Repr

/-- Line `l` of a frame, counted from the frame start, as the state `s` in which it is sent gives it (R162, R170): HS
marks each line, VS the frame start, while they run (log 17). -/
def State.panelLine (s : State) (l : Nat) : PanelLine where
  hs := s.syncRuns && decide (l < s.dtg.activeFormat.lines)
  vs := s.syncRuns && l == 0
  pixels :=
    match s.dtg.activeFormat.activeLine? l with
    | some py => if s.sending then s.pixelLine py else []
    | none => []

/-- The lines of a frame of format `f` in the order they are sent, top to bottom, line `l` read afresh from the state
`reads l` in which it is sent (R157, R162). -/
def frameLines (f : Format) (reads : Nat → State) : List PanelLine :=
  (List.range f.lines).map fun l => (reads l).panelLine l

/-- PD at place `x` of line `l` where DE is low: 0 asleep (R166, R170), a free value awake (log 30). -/
def State.idlePd (s : State) (l x : Nat) : Rgb3 :=
  match s.dtg.power with
  | .asleep => ⟨0, 0, 0⟩
  | .awake =>
    let v := fun ch => (Config.blankingPd s.choices s.dtg.counter.toNat l x ch).toNat
    ⟨v 0, v 1, v 2⟩

/-- DE and PD at place `x` of line `l` of a frame (R162, R166, R170). -/
def State.panel (s : State) (l x : Nat) : Bool × Rgb3 :=
  match (s.panelLine l).pixels[x]? with
  | some p => (true, p)
  | none => (false, s.idlePd l x)

end Sys2Proof.Machine
end

