-- ==== Sys2Proof/Machine/Dispatch.lean ====
section
/-!
DEFINITION. One arm per command: each calls its meaning.
-/

namespace Sys2Proof.Machine

def exec (i : Instr) (s : State) : Host.Outcome State Fault Refusal :=
  match i with
  | .format tag body => Sys2Proof.Machine.execFormat tag body s
  | .mode tag body => Sys2Proof.Machine.execMode tag body s
  | .screen tag body => Sys2Proof.Machine.execScreen tag body s
  | .palette tag body => Sys2Proof.Machine.execPalette tag body s
  | .style tag body => Sys2Proof.Machine.execStyle tag body s
  | .fontarea tag body => Sys2Proof.Machine.execFontarea tag body s
  | .glyphs tag body => Sys2Proof.Machine.execGlyphs tag body s
  | .page tag body => Sys2Proof.Machine.execPage tag body s
  | .unpage tag body => Sys2Proof.Machine.execUnpage tag body s
  | .text tag body => Sys2Proof.Machine.execText tag body s
  | .fill tag body => Sys2Proof.Machine.execFill tag body s
  | .qcells tag body => Sys2Proof.Machine.execQcells tag body s
  | .pane tag body => Sys2Proof.Machine.execPane tag body s
  | .scroll tag body => Sys2Proof.Machine.execScroll tag body s
  | .clip tag body => Sys2Proof.Machine.execClip tag body s
  | .crawl tag body => Sys2Proof.Machine.execCrawl tag body s
  | .crawlctl tag body => Sys2Proof.Machine.execCrawlctl tag body s
  | .define tag body => Sys2Proof.Machine.execDefine tag body s
  | .drop tag body => Sys2Proof.Machine.execDrop tag body s
  | .layout tag body => Sys2Proof.Machine.execLayout tag body s
  | .place tag body => Sys2Proof.Machine.execPlace tag body s
  | .unplace tag body => Sys2Proof.Machine.execUnplace tag body s
  | .post tag body => Sys2Proof.Machine.execPost tag body s
  | .limit tag body => Sys2Proof.Machine.execLimit tag body s
  | .ack tag body => Sys2Proof.Machine.execAck tag body s
  | .hold tag body => Sys2Proof.Machine.execHold tag body s
  | .qslot tag body => Sys2Proof.Machine.execQslot tag body s
  | .status tag body => Sys2Proof.Machine.execStatus tag body s
  | .ident tag body => Sys2Proof.Machine.execIdent tag body s
  | .note tag body => Sys2Proof.Machine.execNote tag body s
  | .lines tag body => Sys2Proof.Machine.execLines tag body s
  | .save tag body => Sys2Proof.Machine.execSave tag body s
  | .reset tag body => Sys2Proof.Machine.execReset tag body s
  | .unknownKind kind tag bytes => Sys2Proof.Machine.execUnknownKind kind tag bytes s
  | .saveCompletion => Sys2Proof.Machine.execSaveCompletion s
  | .frameStart => Sys2Proof.Machine.execFrameStart s
  | .commitStep => Sys2Proof.Machine.execCommitStep s
  | .scanStart => Sys2Proof.Machine.execScanStart s
  | .sleepEntry => Sys2Proof.Machine.execSleepEntry s
  | .rxdByte byte stopLow => Sys2Proof.Machine.execRxdByte byte stopLow s
  | .gapTimerExpiry => Sys2Proof.Machine.execGapTimerExpiry s
  | .transmitStart hrdy => Sys2Proof.Machine.execTransmitStart hrdy s
  | .transmitEnd => Sys2Proof.Machine.execTransmitEnd s
  | .linePinChange line level => Sys2Proof.Machine.execLinePinChange line level s
  | .debounceExpiry line => Sys2Proof.Machine.execDebounceExpiry line s
  | .powerOnReset => Sys2Proof.Machine.execPowerOnReset s
  | .hardReset => Sys2Proof.Machine.execHardReset s
  | .rdyRise => Sys2Proof.Machine.execRdyRise s

end Sys2Proof.Machine
end

