-- ==== Sys2Proof/Safety.lean ====
section
/-!
DEFINITION. The laws that the spec says hold at all times, as properties of a state: of the link's queues, of the
Update Queue and the commit, of pages, layouts, placements and panes, of the crawl, of flashes and alerts, of the
ranges of every number; and the canonical form of the tables.
-/

namespace Sys2Proof.Machine

/-! ## Tables -/

/-- A profile whose tables are canonical. -/
def Profile.canonical (p : Profile) : Prop := Table.wf black p.palette ∧ Table.wf .factory p.styles

/-- A slot whose tables are canonical. -/
def Slot.canonical (r : Slot) : Prop := Table.wf none r.values ∧ Table.wf .still r.moves

/-- Every table of the state has its canonical form: keys strictly rising, no entry at the default. -/
def State.canonical (s : State) : Prop :=
  Table.wf .blank s.cst.cells ∧ Table.wf none s.cst.pages ∧
  Table.wf .empty s.itb.slots ∧ (∀ e ∈ s.itb.slots, e.2.canonical) ∧ Table.wf none s.itb.layouts ∧
  Table.wf none s.upq.pool ∧ Table.wf none s.fau.flash ∧
  Table.wf .hidden s.sco.staged.panes ∧ Table.wf .hidden s.sco.active.panes ∧
  Table.wf 0 s.gcu.glyphs ∧ Table.wf .disabled s.gcu.areas ∧ Table.wf black s.gcu.palette ∧
  Table.wf .factory s.gcu.styles ∧ Table.wf .idle s.lnu.lines ∧ Table.wf .unused s.pst.gens ∧
  (∀ e ∈ s.pst.gens, ∀ p ∈ e.2.done, p.canonical) ∧ ∀ q ∈ s.pst.programming, q.data.canonical

/-! ## The feed link -/

/-- The bounds of the queues (R174, R175, R178, R179), the place that a SAVE in flight reserves (R175, R190), and the
frame being sent, which is the head entry's (R180). -/
def State.linkLaw (s : State) : Prop :=
  s.fli.inQ.length ≤ 8 ∧ s.fli.outQ.length + s.fli.reserved ≤ 48 ∧ s.fli.replies + s.fli.reserved ≤ 8 ∧
  s.fli.reserved = (if s.pst.programming.isSome then 1 else 0) ∧ s.fli.linkErrors ≤ 65535 ∧
  (∀ l < 4, (s.fli.outQ.drop s.fli.sentCount).countP (OutEntry.isLine l) ≤ 1) ∧
  (s.fli.sending = none ∨ s.fli.sending = s.fli.outQ.head?.map fun e => frameBytes e.payload)

/-- What the receiver keeps in each of its states (R172): the gap timer runs outside HUNT only. -/
def Fli.receiverLaw (f : Fli) : Prop :=
  match f.rxState with
  | .hunt => f.kept = [] ∧ f.gapTimer = false
  | .length1 => f.kept = [] ∧ f.gapTimer = true
  | .length2 => f.kept.length = 1 ∧ f.gapTimer = true
  | .payload =>
    goodLength (payloadLength f.kept) ∧ 2 ≤ f.kept.length ∧ f.kept.length < 2 + payloadLength f.kept ∧
      f.gapTimer = true
  | .check =>
    goodLength (payloadLength f.kept) ∧ f.kept.length = 2 + payloadLength f.kept ∧ f.gapTimer = true

/-! ## Instruments, the Update Queue and the commit -/

/-- A number that a 40-bit price field carries (R18). -/
def isPrice (v : Int) : Prop := -549755813888 ≤ v ∧ v ≤ 549755813887

/-- A value in the range of field number `n` (R18). -/
def fieldHolds (n : Nat) (v : Int) : Prop := isPrice v ∧ (Field.ofNat? n).any fun f => f.inRange v

/-- A slot record in the ranges of R16 and R18, its state in step with its age (R107). -/
def Slot.law (r : Slot) : Prop :=
  r.defined ∧ 1 ≤ r.symbol.length ∧ r.symbol.length ≤ 12 ∧ r.symbol.all printable ∧ r.scale.isSome ∧
  r.flashStyle < 16 ∧ r.stale ≤ 65535 ∧ r.age ≤ 65535 ∧ r.conflation ≤ 65535 ∧ r.placements.length ≤ 4 ∧
  (∀ e ∈ r.values, ∀ v ∈ e.2, fieldHolds e.1 v) ∧
  (r.state = .quiet → r.values = [] ∧ r.moves = [] ∧ r.age = 0 ∧ r.lastTake = none) ∧
  (r.state ≠ .quiet → r.lastTake.isSome) ∧
  (r.state = .fresh → r.stale = 0 ∨ r.age < r.stale) ∧
  (r.state = .stale → 0 < r.stale ∧ r.stale ≤ r.age)

/-- The laws of the slots: a FREE slot holds the FREE values, so that only defined slots are listed (R16); no two
defined slots hold one symbol (R20). -/
def State.slotLaw (s : State) : Prop :=
  Table.wf .empty s.itb.slots ∧ (∀ e ∈ s.itb.slots, e.1 < 256 ∧ e.2.law) ∧
  s.itb.slots.Pairwise fun a b => a.2.symbol ≠ b.2.symbol

/-- The laws of the Update Queue (R37, R38, R39, R53, R54). -/
def State.queueLaw (s : State) : Prop :=
  Table.wf none s.upq.pool ∧ s.upq.pool.length ≤ 512 ∧
  (∀ e ∈ s.upq.pool, e.1 < 2048 ∧ (s.slot (e.1 / 8)).defined ∧ ∀ v ∈ e.2, fieldHolds (e.1 % 8) v) ∧
  s.upq.dirty.Nodup ∧ (∀ n ∈ s.upq.dirty, ∃ e ∈ s.upq.pool, e.1 / 8 = n) ∧
  (∀ e ∈ s.upq.pool, e.1 / 8 ∈ s.upq.dirty) ∧
  s.upq.clean ≤ 64 ∧ (s.upq.mark → s.upq.overload ∧ s.upq.clean = 0) ∧ (s.upq.overload → s.upq.clean < 64)

/-- The laws of the commit (R58, R61, R66, R67): it runs only in the blank interval of an unheld frame, and what it
has taken and what it may still take make 192. -/
def State.commitLaw (s : State) : Prop :=
  s.cme.budget ≤ 192 ∧ s.cme.entriesTaken ≤ 192 ∧ s.cme.slotsTaken ≤ s.cme.entriesTaken ∧
  (s.cme.state = .committing →
    s.dtg.power = .awake ∧ s.dtg.phase = .blank ∧ s.dtg.restart = false ∧ s.cme.frameHold = false ∧
      s.cme.frame = s.dtg.counter ∧ s.cme.budget + s.cme.entriesTaken = 192)

/-! ## Pages, layouts, placements, panes -/

/-- The laws of the page table (R3). -/
def State.pageLaw (s : State) : Prop :=
  Table.wf none s.cst.pages ∧
  (∀ e ∈ s.cst.pages, e.1 < 16 ∧
    ∀ p ∈ e.2, 1 ≤ p.rows ∧ p.rows ≤ 128 ∧ 1 ≤ p.cols ∧ p.cols ≤ 200 ∧ p.base + p.size ≤ 24576) ∧
  s.cst.pages.Pairwise fun a b => ∀ p ∈ a.2, ∀ q ∈ b.2, runsMeet p.base p.size q.base q.size = false

/-- A column in the ranges of R26. -/
def Column.law (c : Column) : Prop :=
  c.source.widthOk c.width ∧ c.offset + c.width ≤ 200 ∧ c.style < 16 ∧ c.maxdec ≤ 6

/-- The laws of the layout table (R26): disjoint columns, no source twice. -/
def State.layoutLaw (s : State) : Prop :=
  Table.wf none s.itb.layouts ∧
  ∀ e ∈ s.itb.layouts, e.1 < 16 ∧
    ∀ cs ∈ e.2, 1 ≤ cs.length ∧ cs.length ≤ 12 ∧ (∀ c ∈ cs, c.law) ∧
      cs.Pairwise fun a b => a.source ≠ b.source ∧ runsMeet a.offset a.width b.offset b.width = false

/-- A placement lies wholly within a defined page and names a defined layout (R30). -/
def State.placed (s : State) (p : Placement) : Prop :=
  ∃ pg ∈ s.page p.page, ∃ cs ∈ s.layout p.layout, p.row < pg.rows ∧ p.col + extent cs ≤ pg.cols

/-- The laws of the placements (R30). -/
def State.placementLaw (s : State) : Prop :=
  s.placementsUsed ≤ 512 ∧ ∀ e ∈ s.itb.slots, ∀ p ∈ e.2.placements, s.placed p

/-- A pane in the ranges of R121, naming a defined page or none; NONE goes with priority 0 for a PAGE pane. -/
def State.paneLaw (s : State) (p : Pane) : Prop :=
  p.srcRow ≤ 127 ∧ p.srcCol ≤ 199 ∧ p.scrRow ≤ 63 ∧ p.scrCol ≤ 159 ∧ 1 ≤ p.rows ∧ p.rows ≤ 64 ∧ 1 ≤ p.cols ∧
  p.cols ≤ 160 ∧ p.priority ≤ 7 ∧ (∀ i ∈ p.page, (s.page i).isSome) ∧
  (p.kind = .page → p.page = none → p.priority = 0) ∧
  (p.kind = .crawl → p.page = none ∧ p.rows = 1 ∧ p.srcRow = 0 ∧ p.srcCol = 0)

/-- A copy of the composition: eight panes, at most one of kind CRAWL (R121), windows in the ranges of R122. -/
def State.copyLaw (s : State) (c : Composition) : Prop :=
  Table.wf .hidden c.panes ∧ (∀ e ∈ c.panes, e.1 < 8 ∧ s.paneLaw e.2) ∧
  (∀ a ∈ c.panes, ∀ b ∈ c.panes, a.2.kind = .crawl → b.2.kind = .crawl → a.1 = b.1) ∧
  ∀ w ∈ [c.w0, c.w1], w.top ≤ 63 ∧ w.left ≤ 159 ∧ w.rows ≤ 64 ∧ w.cols ≤ 160

/-- The laws of the composition (R121, R122). -/
def State.compositionLaw (s : State) : Prop := s.copyLaw s.sco.staged ∧ s.copyLaw s.sco.active

/-- The laws of the crawl (R120, R133); text that has entered stands in the ring with the lead at 0 (log 29). -/
def State.crawlLaw (s : State) : Prop :=
  (s.sco.entered → s.sco.lead = 0 ∧ s.sco.ring ≠ []) ∧
  s.sco.ring.length ≤ 1024 ∧ s.sco.speed ≤ 8 ∧ s.sco.offset < s.dtg.activeFormat.cellW ∧
  match s.sco.active.crawlPane with
  | some p => s.sco.lead ≤ p.cols
  | none => s.sco.lead = 0

/-! ## Flashes and alerts -/

/-- The alert queue holds exactly the FIRED limits, each once, and at most 32 limits are ARMED or FIRED (R110,
R114). -/
def State.alertLaw (s : State) : Prop :=
  s.limitCount ≤ 32 ∧
  (∀ a ∈ s.fau.alerts, (s.slot a.slot).limit a.side = .fired a.level) ∧
  (∀ e ∈ s.itb.slots, ∀ side ∈ [Side.high, Side.low], (e.2.limit side).isFired →
    ∃ a ∈ s.fau.alerts, a.slot = e.1 ∧ a.side = side) ∧
  s.fau.alerts.Pairwise fun a b => a.slot ≠ b.slot ∨ a.side ≠ b.side

/-- A flash entry of a defined slot in the ranges of R100, its spans those of the slot's placements (R102); an ALERT
entry is the LAST entry of a slot with a FIRED limit. -/
def State.entryLaw (s : State) (x : FlashEntry) : Prop :=
  (s.slot x.slot).defined ∧ x.field ∈ priceFields ∧ x.spans = s.spansOf x.slot x.field ∧
  match x.kind with
  | .moving _ len rem _ => 1 ≤ rem ∧ rem ≤ len ∧ len ≤ 60
  | .alert => x.field = .last ∧ ((s.slot x.slot).high.isFired ∨ (s.slot x.slot).low.isFired)

/-- The laws of the flash table (R100, R101): at most one entry per slot and field, an ALERT entry for every slot with
a FIRED limit, the age order naming each entry in use once. -/
def State.flashLaw (s : State) : Prop :=
  Table.wf none s.fau.flash ∧ (∀ e ∈ s.fau.flash, e.1 < 128 ∧ ∀ x ∈ e.2, s.entryLaw x) ∧
  (s.fau.flash.Pairwise fun a b => ∀ x ∈ a.2, ∀ y ∈ b.2, x.slot ≠ y.slot ∨ x.field ≠ y.field) ∧
  (∀ a ∈ s.fau.alerts, ∃ e ∈ s.fau.flash, ∃ x ∈ e.2, x.slot = a.slot ∧ x.kind = .alert) ∧
  s.fau.order.Nodup ∧ (∀ i ∈ s.fau.order, ∃ e ∈ s.fau.flash, e.1 = i) ∧ ∀ e ∈ s.fau.flash, e.1 ∈ s.fau.order

/-- References and entries are in step (R1, R102): a cell's reference names an entry in use, one of whose spans holds
the cell. -/
def State.referenceLaw (s : State) : Prop :=
  ∀ e ∈ s.cst.cells, ∀ i ∈ e.2.ref, ∃ x ∈ s.flashEntry i, ∃ sp ∈ x.spans, sp.holds e.1

/-! ## Ranges -/

/-- A style class in the ranges of R148. -/
def Style.law (st : Style) : Prop :=
  st.fg < 64 ∧ st.bg < 64 ∧ st.up < 64 ∧ st.down < 64 ∧ st.alert < 64 ∧ st.f ≤ 60

/-- Settings in the ranges of R141. -/
def settingsLaw (palette : Table Rgb) (styles : Table Style) (back dim : Nat) (banner : List Byte) : Prop :=
  (∀ e ∈ palette, e.1 < 64) ∧ (∀ e ∈ styles, e.1 < 16 ∧ e.2.law) ∧ back < 64 ∧ dim ≤ 255 ∧ banner.length ≤ 40 ∧
  banner.all printable

/-- A profile in the ranges of R141. -/
def Profile.law (p : Profile) : Prop := settingsLaw p.palette p.styles p.back p.dim p.banner

/-- Every cell, colour and setting stands in its range (R1, R100, R120, R141, R145), the generations are 1 to 4 with a
done mark only on a claimed one (R189), and the loaded profile is one of the five (R189). -/
def State.rangeLaw (s : State) : Prop :=
  (∀ e ∈ s.cst.cells, e.1 < 24576 ∧ e.2.fg < 64 ∧ e.2.bg < 64 ∧ ∀ i ∈ e.2.ref, i < 128) ∧
  settingsLaw s.gcu.palette s.gcu.styles s.gcu.back s.gcu.dim s.gcu.banner ∧
  (∀ e ∈ s.gcu.areas, e.1 < 4 ∧ e.2.bank ≤ 3 ∧ e.2.base ≤ 255) ∧
  (∀ e ∈ s.gcu.glyphs, glyphKey 1 0 0 ≤ e.1 ∧ e.1 < glyphKey 4 0 0) ∧
  (∀ e ∈ s.fau.flash, e.1 < 128 ∧ ∀ x ∈ e.2, x.colour < 64) ∧
  (∀ c ∈ s.sco.ring, c.fg < 64 ∧ c.bg < 64) ∧ s.sco.blank < 64 ∧
  (∀ e ∈ s.lnu.lines, e.1 < 4 ∧ e.2.edges ≤ 65535) ∧
  (∀ e ∈ s.pst.gens, 1 ≤ e.1 ∧ e.1 ≤ 4 ∧ (e.2.done.isSome → e.2.claimed) ∧ ∀ p ∈ e.2.done, p.law) ∧
  (∀ q ∈ s.pst.programming, 1 ≤ q.generation ∧ q.generation ≤ 4 ∧ q.data.law ∧
    s.gen q.generation = ⟨true, none⟩) ∧ s.pst.loaded ≤ 4

end Sys2Proof.Machine
end

