-- ==== Sys2Proof/Certificates/Slice0/Obligations.lean ====
section
/-!
DEFINITION. The statements about the controller, from the numbered rules of the spec, in the words of the helpers of
the first part.
-/

namespace Sys2Proof.Claims

open Sys2Proof.Machine

/-! ## Words of the statements -/

/-- The status of the first check that fails, of a request's checks in their order. -/
def firstFailure : List (Bool × Status) → Option Status
  | [] => none
  | (passes, st) :: rest => if passes then firstFailure rest else some st

/-- The link after a request `f` has been taken off the head of the input record queue in state `s` and answered: the
flags OVERRUN and NLOST as they stood, the other three as the state `t` that the request leaves has them (R175 to
R177). -/
def linkAfter (s t : State) (f : Frame) (st : Status) (body : ReplyBody) : Fli :=
  { s.fli with
    inQ := s.fli.inQ.tail
    outQ := s.fli.outQ ++
      [.reply (if f.kind = 0 ∨ 0x40 ≤ f.kind.toNat then 0xFF else 0x80 + f.kind) f.tag st
        ⟨s.fli.overrun, s.fli.nlost, t.upq.overload, t.held, !t.fau.alerts.isEmpty⟩ body]
    overrun := false
    nlost := false }

/-- The state after a request refused with `st`: the refusal is queued, and nothing else changes. -/
def refused (s : State) (f : Frame) (st : Status) : State := { s with fli := linkAfter s s f st .empty }

/-- The request `i`, taken in `s` at once: the first of its checks to fail gives the status of the refusal; with none
failing it completes in a state that satisfies `done`. -/
def Request (i : Instr) (s : State) (checks : List (Bool × Status)) (done : Frame → State → Prop) : Prop :=
  ∀ f, encodeFrame i = some f → s.canTake f = true →
    match firstFailure checks with
    | some st => exec i s = .next (refused s f st)
    | none => ∃ t, exec i s = .next t ∧ done f t

/-- The request `i`, of a body of a wrong length, is refused with BAD_LENGTH. -/
def WrongLength (i : Instr) (s : State) : Prop := Request i s [(false, .badLength)] fun _ _ => False

/-- The reply OK with a body, and no other change of the link. -/
def Answered (s t : State) (f : Frame) (body : ReplyBody) : Prop := t.fli = linkAfter s t f .ok body

/-- A notice offered to the output queue (R178). -/
def offered (f : Fli) (n : OutEntry) : Fli :=
  if f.outQ.length + f.reserved < 48 then { f with outQ := f.outQ ++ [n] } else { f with nlost := true }

/-- Cell `k` belongs to column `c` of the placement `p` (R30). -/
def inColumn (s : State) (p : Placement) (c : Column) (k : Nat) : Prop :=
  ∃ pg, s.page p.page = some pg ∧ ∃ cs, s.layout p.layout = some cs ∧ c ∈ cs ∧
    pg.base + p.row * pg.cols + p.col + c.offset ≤ k ∧ k < pg.base + p.row * pg.cols + p.col + c.offset + c.width

/-- Cell `k` is a column cell of one of the placements (R30). -/
def inPlacements (s : State) (ps : List Placement) (k : Nat) : Prop := ∃ p ∈ ps, ∃ c, inColumn s p c k

/-- The cells agree in everything but the flash reference, which may have been set to none (R106). -/
def sameButRef (a b : Cell) : Prop := { a with ref := none } = { b with ref := none } ∧ (a.ref = b.ref ∨ a.ref = none)

/-- The flash reference of cell `k` names an entry of `s`, one of whose spans holds the cell, and `t` no longer has that
entry (R102, R106). -/
def lostReference (s t : State) (k : Nat) : Prop :=
  ∃ i x, (s.cell k).ref = some i ∧ s.flashEntry i = some x ∧
    (∀ y, t.flashEntry i = some y → ¬ (y.slot = x.slot ∧ y.field = x.field)) ∧
    ∃ sp ∈ x.spans, sp.cell ≤ k ∧ k < sp.cell + sp.width

/-- Cell `k` is as in `s`, but for a reference to an entry that has ended, which becomes none (R106). -/
def keepsOrLosesReference (s t : State) (k : Nat) : Prop :=
  (lostReference s t k → t.cell k = { s.cell k with ref := none }) ∧ (¬ lostReference s t k → t.cell k = s.cell k)

/-- The columns of placements with the cells at which they begin, in the order in which painting writes them (R30,
R31). -/
def columnRuns (s : State) (ps : List Placement) : List (Nat × Column) :=
  ps.flatMap fun p =>
    match s.page p.page, s.layout p.layout with
    | some pg, some cs => cs.map fun c => (pg.base + p.row * pg.cols + p.col + c.offset, c)
    | _, _ => []

/-- The column that is written last over cell `k`, with the cell at which it begins, when the placements are written in
their order (R25, R31). -/
def lastColumn (s : State) (ps : List Placement) (k : Nat) : Option (Nat × Column) :=
  (columnRuns s ps).reverse.find? fun a => decide (a.1 ≤ k ∧ k < a.1 + a.2.width)

/-- The cell that blanking writes in a column of class `st` (R25). -/
def blanked (st : Style) : Cell := ⟨0x0020, st.fg, st.bg, ⟨false, false, false⟩, none, false⟩

/-- The cells of blanked placements: each column cell holds what blanking writes in the last column over it, as they are
blanked in list order (R25); every other cell keeps all but a reference to an entry that has ended. -/
def blankedCells (s t : State) (ps : List Placement) : Prop :=
  ∀ k, (∀ a, lastColumn s ps k = some a → t.cell k = blanked (s.style a.2.style)) ∧
    (lastColumn s ps k = none → keepsOrLosesReference s t k)

/-- The cells of a window (R122). -/
def inWindow (w : Window) (r c : Nat) : Prop := w.top ≤ r ∧ r < w.top + w.rows ∧ w.left ≤ c ∧ c < w.left + w.cols

/-- A window cuts a pane at a cell in a mode (R122). -/
def cuts (m : ClipMode) (w : Window) (r c : Nat) : Prop :=
  (m = .inside ∧ inWindow w r c) ∨ (m = .outside ∧ ¬ inWindow w r c)

/-- A pane is cut at a cell: with both modes not OFF and logic AND where both windows cut it, else where either does
(R122). -/
def isCut (k : Composition) (p : Pane) (r c : Nat) : Prop :=
  if p.w0 ≠ .off ∧ p.w1 ≠ .off ∧ p.logic = .and then cuts p.w0 k.w0 r c ∧ cuts p.w1 k.w1 r c
  else cuts p.w0 k.w0 r c ∨ cuts p.w1 k.w1 r c

/-- A choice of OFF 0, INSIDE 1, OUTSIDE 2. -/
def clipMode (b : Byte) : ClipMode := if b = 0 then .off else if b = 1 then .inside else .outside

/-- The flags of a cell flags byte (R184). -/
def cellFlags (b : Byte) : CellFlags := ⟨b.getLsbD 0, b.getLsbD 1, b.getLsbD 2⟩

/-- The number of a source (R184). -/
def sourceNum : Source → Nat
  | .field f => f.num
  | .chg => 8
  | .pct => 9
  | .symbol => 10
  | .arrow => 11

/-! ## The checks of the requests, in their order -/

/-- R164. -/
def modeChecks (o : ModeOps) : List (Bool × Status) :=
  [(decide (o.area.toNat ≤ 1 ∧ o.colour.toNat ≤ 1 ∧ o.power.toNat ≤ 1), .badValue),
   (decide (o.area = 0 ∨ (o.first.toNat ≤ 63 ∧ o.last.toNat ≤ 63 ∧ o.first.toNat ≤ o.last.toNat)), .badValue)]

/-- R150. -/
def screenChecks (o : ScreenOps) : List (Bool × Status) :=
  [(decide (o.back.toNat ≤ 63 ∧ o.banner.length ≤ 40 ∧ ∀ b ∈ o.banner, 0x20 ≤ b.toNat ∧ b.toNat ≤ 0x7E), .badValue)]

/-- R148. -/
def styleChecks (o : StyleOps) : List (Bool × Status) :=
  [(decide (o.cls.toNat ≤ 15 ∧ (∀ b ∈ [o.fg, o.bg, o.up, o.down, o.alert], b.toNat ≤ 63) ∧ o.f.toNat ≤ 60 ∧
      ∀ b ∈ [o.dirtext, o.und, o.blk, o.dim], b.toNat ≤ 1), .badValue)]

/-- R145. -/
def fontareaChecks (o : FontAreaOps) : List (Bool × Status) :=
  [(decide (o.area.toNat ≤ 3 ∧ o.enabled.toNat ≤ 1 ∧ o.bank.toNat ≤ 3), .badValue)]

/-- R147. -/
def paletteChecks (o : PaletteOps) : List (Bool × Status) :=
  [(decide (o.start.toNat ≤ 63 ∧ 1 ≤ o.entries.length ∧ o.entries.length ≤ 64), .badValue),
   (decide (o.start.toNat + o.entries.length ≤ 64), .range)]

/-- R143. -/
def glyphsChecks (o : GlyphsOps) (s : State) : List (Bool × Status) :=
  [(decide (1 ≤ o.bank.toNat ∧ o.bank.toNat ≤ 3 ∧ 1 ≤ o.glyphs.length ∧ o.glyphs.length ≤ 16), .badValue),
   (decide (o.first.toNat + o.glyphs.length ≤ 256), .range), (s.dtg.power == .awake, .asleep)]

/-- R4. -/
def pageChecks (o : PageOps) (s : State) : List (Bool × Status) :=
  let n := o.rows.toNat * o.cols.toNat
  [(decide (o.id.toNat ≤ 15 ∧ 1 ≤ o.rows.toNat ∧ o.rows.toNat ≤ 128 ∧ 1 ≤ o.cols.toNat ∧ o.cols.toNat ≤ 200), .badValue),
   ((s.page o.id.toNat).isNone, .inUse),
   (decide (o.base.toNat + n ≤ 24576), .range),
   ((List.range 16).all fun i => (s.page i).all fun p =>
      decide (o.base.toNat + n ≤ p.base ∨ p.base + p.rows * p.cols ≤ o.base.toNat), .overlap)]

/-- R6. -/
def unpageChecks (o : UnpageOps) (s : State) : List (Bool × Status) :=
  [(decide (o.id.toNat ≤ 15), .badValue), ((s.page o.id.toNat).isSome, .noPage),
   (!(s.anyPlacement fun p => p.page == o.id.toNat), .inUse),
   ((List.range 8).all fun p => (s.sco.staged.pane p).page != some o.id.toNat &&
      (s.sco.active.pane p).page != some o.id.toNat, .inUse)]

/-- R8. -/
def textChecks (o : TextOps) (s : State) : List (Bool × Status) :=
  [(decide (o.id.toNat ≤ 15 ∧ 1 ≤ o.codes.length ∧ o.codes.length ≤ 200 ∧ o.fg.toNat ≤ 63 ∧ o.bg.toNat ≤ 63 ∧
      o.flags.toNat ≤ 7), .badValue),
   ((s.page o.id.toNat).isSome, .noPage),
   ((s.page o.id.toNat).any fun p => decide (o.row.toNat < p.rows ∧ o.col.toNat + o.codes.length ≤ p.cols), .range)]

/-- R10. -/
def fillChecks (o : FillOps) (s : State) : List (Bool × Status) :=
  [(decide (o.id.toNat ≤ 15 ∧ 1 ≤ o.rows.toNat ∧ o.rows.toNat ≤ 128 ∧ 1 ≤ o.cols.toNat ∧ o.cols.toNat ≤ 200 ∧
      o.fg.toNat ≤ 63 ∧ o.bg.toNat ≤ 63 ∧ o.flags.toNat ≤ 7), .badValue),
   ((s.page o.id.toNat).isSome, .noPage),
   ((s.page o.id.toNat).any fun p => decide (o.top.toNat + o.rows.toNat ≤ p.rows ∧
      o.left.toNat + o.cols.toNat ≤ p.cols), .range)]

/-- R14. -/
def qcellsChecks (o : QcellsOps) (s : State) : List (Bool × Status) :=
  [(decide (o.id.toNat ≤ 15 ∧ 1 ≤ o.count.toNat ∧ o.count.toNat ≤ 64), .badValue),
   ((s.page o.id.toNat).isSome, .noPage),
   ((s.page o.id.toNat).any fun p => decide (o.row.toNat < p.rows ∧ o.col.toNat + o.count.toNat ≤ p.cols), .range)]

/-- R124. -/
def paneChecks (o : PaneOps) (s : State) : List (Bool × Status) :=
  [(decide (o.pane.toNat ≤ 7 ∧ o.kind.toNat ≤ 1 ∧ o.srcRow.toNat ≤ 127 ∧ o.srcCol.toNat ≤ 199 ∧ o.scrRow.toNat ≤ 63 ∧
      o.scrCol.toNat ≤ 159 ∧ 1 ≤ o.rows.toNat ∧ o.rows.toNat ≤ 64 ∧ 1 ≤ o.cols.toNat ∧ o.cols.toNat ≤ 160 ∧
      o.priority.toNat ≤ 7 ∧ o.w0.toNat ≤ 2 ∧ o.w1.toNat ≤ 2 ∧ o.logic.toNat ≤ 1 ∧
      (o.kind = 1 ∨ o.page.toNat ≤ 15 ∨ (o.page = 0xFF ∧ o.priority = 0))), .badValue),
   (decide (o.kind = 1 → o.rows = 1), .range),
   (decide (o.kind = 0 → o.page ≠ 0xFF → (s.page o.page.toNat).isSome), .noPage),
   (decide (o.kind = 1 → ∀ q ∈ List.range 8, q = o.pane.toNat ∨ (s.sco.staged.pane q).kind ≠ .crawl), .inUse)]

/-- R126. -/
def scrollChecks (o : ScrollOps) (s : State) : List (Bool × Status) :=
  [(decide (o.pane.toNat ≤ 7 ∧ o.row.toNat ≤ 127 ∧ o.col.toNat ≤ 199), .badValue),
   (decide ((s.sco.staged.pane o.pane.toNat).kind = .page), .badValue)]

/-- R127. -/
def clipChecks (o : ClipOps) : List (Bool × Status) :=
  [(decide (o.window.toNat ≤ 1 ∧ o.top.toNat ≤ 63 ∧ o.left.toNat ≤ 159 ∧ o.rows.toNat ≤ 64 ∧ o.cols.toNat ≤ 160),
    .badValue)]

/-- R134. -/
def crawlChecks (o : CrawlOps) (s : State) : List (Bool × Status) :=
  [(decide (1 ≤ o.codes.length ∧ o.codes.length ≤ 240 ∧ o.fg.toNat ≤ 63 ∧ o.bg.toNat ≤ 63), .badValue),
   (decide (s.sco.ring.length + o.codes.length ≤ 1024), .full)]

/-- R135. -/
def crawlctlChecks (o : CrawlctlOps) : List (Bool × Status) :=
  [(decide (o.speed.toNat ≤ 8 ∧ o.blank.toNat ≤ 63 ∧ o.clear.toNat ≤ 1), .badValue)]

/-- R21. -/
def defineChecks (o : DefineOps) (s : State) : List (Bool × Status) :=
  [(decide (1 ≤ o.symbol.length ∧ o.symbol.length ≤ 12 ∧ (∀ b ∈ o.symbol, 0x20 ≤ b.toNat ∧ b.toNat ≤ 0x7E) ∧
      ((o.scaleKind = 0 ∧ o.scaleParam.toNat ≤ 6) ∨ (o.scaleKind = 1 ∧ 1 ≤ o.scaleParam.toNat ∧ o.scaleParam.toNat ≤ 8) ∨
        o.scaleKind = 2) ∧ o.flashStyle.toNat ≤ 15), .badValue),
   (decide ((s.slot o.slot.toNat).state = .free), .inUse),
   (decide (∀ e ∈ s.itb.slots, e.2.state ≠ .free → e.2.symbol ≠ o.symbol), .duplicate)]

/-- The scale that DEFINE's kind and parameter give (R19, R185). -/
def scaleOf (o : DefineOps) : Scale :=
  if o.scaleKind = 0 then .dec o.scaleParam.toNat else if o.scaleKind = 1 then .frac o.scaleParam.toNat else .h32

/-- A column in the ranges of R28, check 2. -/
def columnOk (c : ColumnOps) : Bool :=
  decide (c.source.toNat ≤ 11 ∧ c.offset.toNat ≤ 199 ∧ 1 ≤ c.width.toNat ∧ c.width.toNat ≤ 16 ∧
    (c.source = 10 → c.width.toNat ≤ 12) ∧ (c.source = 11 → c.width.toNat = 1) ∧ c.align.toNat ≤ 1 ∧
    c.style.toNat ≤ 15 ∧ c.sep.toNat ≤ 1 ∧ c.maxdec.toNat ≤ 6 ∧ c.compress.toNat ≤ 1)

/-- R28. -/
def layoutChecks (o : LayoutOps) (s : State) : List (Bool × Status) :=
  [(decide (o.layout.toNat ≤ 15 ∧ 1 ≤ o.columns.length ∧ o.columns.length ≤ 12) && o.columns.all columnOk, .badValue),
   (o.columns.all fun c => decide (c.offset.toNat + c.width.toNat ≤ 200), .range),
   (decide (o.columns.Pairwise fun a b => a.source ≠ b.source), .duplicate),
   (decide (o.columns.Pairwise fun a b => a.offset.toNat + a.width.toNat ≤ b.offset.toNat ∨
      b.offset.toNat + b.width.toNat ≤ a.offset.toNat), .overlap),
   (!(s.anyPlacement fun p => p.layout == o.layout.toNat), .inUse)]

/-- The column that a column of a LAYOUT request gives (R26, R184). -/
def columnFrom (c : ColumnOps) (k : Column) : Prop :=
  sourceNum k.source = c.source.toNat ∧ k.offset = c.offset.toNat ∧ k.width = c.width.toNat ∧
  k.align = (if c.align = 0 then .left else .right) ∧ k.style = c.style.toNat ∧ k.sep = decide (c.sep = 1) ∧
  k.maxdec = c.maxdec.toNat ∧ k.compress = decide (c.compress = 1)

/-- R32. -/
def placeChecks (o : PlaceOps) (s : State) : List (Bool × Status) :=
  [(decide (o.page.toNat ≤ 15 ∧ o.row.toNat ≤ 127 ∧ o.col.toNat ≤ 199 ∧ o.layout.toNat ≤ 15), .badValue),
   (decide ((s.slot o.slot.toNat).state ≠ .free), .noSlot),
   ((s.page o.page.toNat).isSome, .noPage), ((s.layout o.layout.toNat).isSome, .noLayout),
   ((s.page o.page.toNat).any fun pg => (s.layout o.layout.toNat).any fun cs =>
      decide (o.row.toNat < pg.rows ∧ ∀ c ∈ cs, o.col.toNat + (c.offset + c.width) ≤ pg.cols) &&
        decide (o.col.toNat ≤ pg.cols), .range),
   (decide ((s.slot o.slot.toNat).placements.length < 4 ∧ s.placementsUsed < 512), .full)]

/-- R34. -/
def unplaceChecks (o : UnplaceOps) (s : State) : List (Bool × Status) :=
  [(decide (o.index.toNat ≤ 3), .badValue), (decide ((s.slot o.slot.toNat).state ≠ .free), .noSlot),
   (decide (o.index.toNat < (s.slot o.slot.toNat).placements.length), .range)]

/-- The range of field number `n` (R41). -/
def inRange (n : Nat) (v : Int) : Bool :=
  if n = 3 ∨ n = 4 ∨ n = 5 then decide (0 ≤ v ∧ v ≤ 4294967295)
  else if n = 7 then
    decide (0 ≤ v ∧ v ≤ 235959 ∧ v / 10000 ≤ 23 ∧ v / 100 % 100 ≤ 59 ∧ v % 100 ≤ 59)
  else true

/-- R40, checks 2 to 6. -/
def postChecks (o : PostOps) (s : State) : List (Bool × Status) :=
  [(decide ((s.slot o.slot.toNat).state ≠ .free), .noSlot),
   (decide (1 ≤ o.pairs.length ∧ o.pairs.length ≤ 8), .badLength),
   (decide (∀ p ∈ o.pairs, p.field.toNat ≤ 7), .badValue),
   (decide (o.pairs.Pairwise fun p q => p.field ≠ q.field), .duplicate),
   (decide (∀ p ∈ o.pairs, inRange p.field.toNat p.value.toInt), .badValue)]

/-- The pairs of a POST that need a new entry (R42). -/
def newPairs (o : PostOps) (s : State) : Nat :=
  o.pairs.countP fun p => (s.pendingValue o.slot.toNat p.field.toNat).isNone

/-- R111. -/
def limitChecks (o : LimitOps) (s : State) (side : Side) : List (Bool × Status) :=
  [(decide ((o.action = 0 → o.level.isSome) ∧ (o.action = 1 → o.level.isNone)), .badLength),
   (decide (o.limit.toNat ≤ 1 ∧ o.action.toNat ≤ 1), .badValue),
   (decide ((s.slot o.slot.toNat).state ≠ .free), .noSlot),
   (!((s.slot o.slot.toNat).limit side).isFired, .fired),
   (decide (o.action = 0 → (s.slot o.slot.toNat).limit side = .disarmed → s.limitCount < 32), .full)]

/-- The limit named by a choice of HIGH 0, LOW 1. -/
def sideOf (b : Byte) : Side := if b = 0 then .high else .low

/-- The limit of a slot changed, and nothing else of the slot. -/
def withLimit (r : Slot) (side : Side) (l : Limit) : Slot :=
  { r with high := if side = .high then l else r.high, low := if side = .low then l else r.low }

end Sys2Proof.Claims

open Sys2Proof Sys2Proof.Machine Sys2Proof.Claims

/-! ## The queue of commands, and the link's frames -/

/-- The command at the front of the queue runs on the state with the queue's rest; with none waiting the block idles
(the model's choice, log 1). -/
def Obligations.StepRunsFrontCommand : Prop :=
  ∀ (s : State) (i : Instr) (rest : List Instr),
    (s.pending = i :: rest → step s = exec i { s with pending := rest }) ∧ (s.pending = [] → step s = .next s)

/-- A request that cannot be taken yet, because the replies waiting and the reply places reserved are 8, or the
entries waiting and those places are 48, waits at the head (R175). Otherwise, with frames ahead of it, it joins the
queue behind them, or is discarded with OVERRUN when 8 wait (R174; that a request command stands for such a frame too is
the model's choice, log 2). The two conditions of R175 are those under which the head is taken. -/
def Obligations.RequestWaitsOrJoins : Prop :=
  (∀ (s : State) (i : Instr) (f : Frame), encodeFrame i = some f →
    ((¬ (s.fli.replies + s.fli.reserved < 8 ∧ s.fli.outQ.length + s.fli.reserved < 48)) →
      s.fli.inQ.head? = some f → exec i s = .next s) ∧
    (s.canTake f = false → s.fli.inQ.head? ≠ some f →
      exec i s = .next { s with
        fli := if s.fli.inQ.length < 8 then { s.fli with inQ := s.fli.inQ ++ [f] } else { s.fli with overrun := true } })) ∧
  (∀ (s : State) (f : Frame), s.fli.inQ.head? = some f →
    (s.canTake f = true ↔
      s.fli.replies + s.fli.reserved < 8 ∧ s.fli.outQ.length + s.fli.reserved < 48))

/-- Every well-formed request is read back from the frame that carries it (R184, R185). -/
def Obligations.DecodeEncodeAgree : Prop :=
  ∀ (i : Instr) (f : Frame), i.wf = true → encodeFrame i = some f → decodeFrame f = i

/-- Every frame carries a command, no byte of it is lost, and the command is well formed where the payload limit
admits the frame: its body is malformed exactly where its length is not the one R185 requires. -/
def Obligations.EncodeDecodeAgree : Prop :=
  ∀ f : Frame, encodeFrame (decodeFrame f) = some f ∧ (f.body.length ≤ 1022 → (decodeFrame f).wf = true)

/-- A frame on the line (R171): the start byte, the payload's length, the payload, and a check byte that makes the sum of
the bytes after the start byte 0 modulo 256. -/
def Obligations.FramesSumToZero : Prop :=
  ∀ p : List Byte, p.length ≤ 1024 →
    (frameBytes p).length = p.length + 4 ∧ (frameBytes p).head? = some 0xA5 ∧
    payloadLength (frameBytes p).tail = p.length ∧ ((frameBytes p).drop 3).take p.length = p ∧
    byteSum (frameBytes p).tail = 0

/-- A kind that names no request is refused with UNKNOWN_KIND and an empty body; the reply to kind 0x00, or to 0x40 or
more, carries kind 0xFF (R176). -/
def Obligations.UnknownKindRefused : Prop :=
  ∀ (s : State) (kind tag : Byte) (bytes : List Byte), s.canTake ⟨kind, tag, bytes⟩ = true →
    exec (.unknownKind kind tag bytes) s = .next (refused s ⟨kind, tag, bytes⟩ .unknownKind) ∧
    (refused s ⟨kind, tag, bytes⟩ .unknownKind).fli.outQ = s.fli.outQ ++
      [.reply (if kind = 0 ∨ 0x40 ≤ kind.toNat then 0xFF else 0x80 + kind) tag .unknownKind s.replyFlags .empty]

/-! ## Display settings and colours -/

/-- FORMAT writes the staged format (R159). MODE writes the staged area, colour and power together, and wakes a
sleeping controller at once (R164, R168). -/
def Obligations.FormatAndModeStage : Prop :=
  (∀ (s : State) (tag : Byte) (o : FormatOps),
    Request (.format tag (.ops o)) s [(decide (o.format.toNat ≤ 3), .badValue)] (fun f t =>
      Answered s t f .empty ∧
      ∃ fmt : Format, fmt.byte = o.format ∧ t = { s with fli := t.fli, dtg := { s.dtg with stagedFormat := fmt } }) ∧
    ∀ bytes, WrongLength (.format tag (.malformed bytes)) s) ∧
  (∀ (s : State) (tag : Byte) (o : ModeOps),
    Request (.mode tag (.ops o)) s (modeChecks o) (fun f t =>
      Answered s t f (.power t.dtg.power) ∧
      ∃ (c : ColourMode) (p : Power), c.byte = o.colour ∧ p.byte = o.power ∧
        t = { s with
          fli := t.fli
          dtg := { s.dtg with
            stagedArea := if o.area = 0 then .full else .band o.first.toNat o.last.toNat
            stagedColour := c
            stagedPower := p
            power := if p = .awake then .awake else s.dtg.power
            restart := if s.dtg.power = .asleep ∧ p = .awake then true else s.dtg.restart } }) ∧
    ∀ bytes, WrongLength (.mode tag (.malformed bytes)) s)

/-- SCREEN replaces the back colour, D and the banner text (R150); STYLE replaces every part of the class and touches
no cell and no flash entry (R148, R149); FONTAREA writes the area's record whole (R145). The glyph of a code is blank for
code 0; else the enabled area of lowest number whose start agrees with the code in every bit clear in the mask gives
the bank and the index, beyond 255 the replacement glyph; with no such area it is the ROM glyph of the code, or above
0x00FF the replacement glyph, ROM glyph 0x7F (R142, R145, R146). A RAM glyph's pixels are its rows', column 0 leftmost; the
ROM's are free values (log 8), in one form for F3 and one for the other formats (R142). -/
def Obligations.ScreenStyleFontAreaWrite : Prop :=
  (∀ (s : State) (tag : Byte) (o : ScreenOps),
    Request (.screen tag (.ops o)) s (screenChecks o) (fun f t =>
      Answered s t f .empty ∧
      t = { s with
        fli := t.fli
        gcu := { s.gcu with back := o.back.toNat, dim := o.dim.toNat, banner := o.banner } }) ∧
    ∀ bytes, WrongLength (.screen tag (.malformed bytes)) s) ∧
  (∀ (s : State) (tag : Byte) (o : StyleOps),
    Request (.style tag (.ops o)) s (styleChecks o) (fun f t =>
      Answered s t f .empty ∧ t = { s with fli := t.fli, gcu := { s.gcu with styles := t.gcu.styles } } ∧
      ∀ c, t.style c =
        if c = o.cls.toNat then
          { fg := o.fg.toNat, bg := o.bg.toNat, up := o.up.toNat, down := o.down.toNat, alert := o.alert.toNat
            f := o.f.toNat, dirtext := decide (o.dirtext = 1)
            flags := ⟨decide (o.und = 1), decide (o.blk = 1), decide (o.dim = 1)⟩ }
        else s.style c) ∧
    ∀ bytes, WrongLength (.style tag (.malformed bytes)) s) ∧
  (∀ (s : State) (tag : Byte) (o : FontAreaOps),
    Request (.fontarea tag (.ops o)) s (fontareaChecks o) (fun f t =>
      Answered s t f .empty ∧ t = { s with fli := t.fli, gcu := { s.gcu with areas := t.gcu.areas } } ∧
      ∀ a, t.area a =
        if a = o.area.toNat then ⟨decide (o.enabled = 1), o.start, o.mask, o.bank.toNat, o.base.toNat⟩
        else s.area a) ∧
    ∀ bytes, WrongLength (.fontarea tag (.malformed bytes)) s) ∧
  (∀ (s : State) (c : Code),
    let matching := fun a => (s.area a).enabled = true ∧
      ∀ bit < 16, (s.area a).mask.getLsbD bit = false → c.getLsbD bit = (s.area a).start.getLsbD bit
    (c = 0 → s.glyphOf c = .blank) ∧
    (∀ a < 4, c ≠ 0 → matching a → (∀ b < a, ¬ matching b) →
      let i := (s.area a).base + (c &&& (s.area a).mask).toNat
      s.glyphOf c =
        if 255 < i then .rom 0x7F
        else if (s.area a).bank ≠ 0 then .ram (s.area a).bank i
        else if i = 0 then .blank else .rom i) ∧
    (c ≠ 0 → (∀ a < 4, ¬ matching a) → s.glyphOf c = if c.toNat ≤ 0xFF then .rom c.toNat else .rom 0x7F)) ∧
  ∀ (s : State) (f : Format) (y x : Nat),
    s.glyphPixel f .blank y x = false ∧
    (∀ bank g, s.glyphPixel f (.ram bank g) y x = (decide (x < 12) && (s.glyphRow bank g y).getLsbD (11 - x))) ∧
    ∀ g, s.glyphPixel f (.rom g) y x = Config.romPixel (decide (f = .f3)) g y x

/-- PALETTE writes its entries from start on (R147). GLYPHS writes every pixel of its glyphs: in the byte form of a
row, bit 15 is pixel column 0 and bit 4 is pixel column 11 (R144, R184). -/
def Obligations.PaletteAndGlyphsLoad : Prop :=
  (∀ (s : State) (tag : Byte) (o : PaletteOps),
    Request (.palette tag (.ops o)) s (paletteChecks o) (fun f t =>
      Answered s t f .empty ∧ t = { s with fli := t.fli, gcu := { s.gcu with palette := t.gcu.palette } } ∧
      ∀ i, t.colour i =
        if o.start.toNat ≤ i ∧ i < o.start.toNat + o.entries.length then o.entries.getD (i - o.start.toNat) black
        else s.colour i) ∧
    ∀ bytes, WrongLength (.palette tag (.malformed bytes)) s) ∧
  (∀ (s : State) (tag : Byte) (o : GlyphsOps), (∀ g ∈ o.glyphs, g.length = 20) →
    Request (.glyphs tag (.ops o)) s (glyphsChecks o s) (fun f t =>
      Answered s t f .empty ∧ t = { s with fli := t.fli, gcu := { s.gcu with glyphs := t.gcu.glyphs } } ∧
      ∀ bank g y x, g ≤ 255 → y < 20 → x < 12 →
        (t.glyphRow bank g y).getLsbD (11 - x) =
          if bank = o.bank.toNat ∧ o.first.toNat ≤ g ∧ g < o.first.toNat + o.glyphs.length then
            ((o.glyphs.getD (g - o.first.toNat) []).getD y 0).getLsbD (15 - x)
          else (s.glyphRow bank g y).getLsbD (11 - x)) ∧
    ∀ bytes, WrongLength (.glyphs tag (.malformed bytes)) s)

/-! ## Pages and cells -/

/-- PAGE defines the page and sets every cell of its run to the reset value (R4, R5). UNPAGE makes the page undefined
and leaves its cells (R6, R7). -/
def Obligations.PageDefinesUnpageRemoves : Prop :=
  (∀ (s : State) (tag : Byte) (o : PageOps),
    Request (.page tag (.ops o)) s (pageChecks o s) (fun f t =>
      Answered s t f .empty ∧ t = { s with fli := t.fli, cst := t.cst } ∧
      (∀ i, t.page i =
        if i = o.id.toNat then some ⟨o.base.toNat, o.rows.toNat, o.cols.toNat⟩ else s.page i) ∧
      ∀ k, t.cell k =
        if o.base.toNat ≤ k ∧ k < o.base.toNat + o.rows.toNat * o.cols.toNat then .blank else s.cell k) ∧
    ∀ bytes, WrongLength (.page tag (.malformed bytes)) s) ∧
  (∀ (s : State) (tag : Byte) (o : UnpageOps),
    Request (.unpage tag (.ops o)) s (unpageChecks o s) (fun f t =>
      Answered s t f .empty ∧ t = { s with fli := t.fli, cst := { s.cst with pages := t.cst.pages } } ∧
      ∀ i, t.page i = if i = o.id.toNat then none else s.page i) ∧
    ∀ bytes, WrongLength (.unpage tag (.malformed bytes)) s)

/-- TEXT writes its codes along the row, with the request's colours and flags, no flash reference and no stale mark,
and no other cell (R8, R9). FILL sets every cell of the rectangle, and no other (R10, R11). -/
def Obligations.TextAndFillWrite : Prop :=
  (∀ (s : State) (tag : Byte) (o : TextOps),
    Request (.text tag (.ops o)) s (textChecks o s) (fun f t =>
      Answered s t f .empty ∧ t = { s with fli := t.fli, cst := { s.cst with cells := t.cst.cells } } ∧
      ∀ pg, s.page o.id.toNat = some pg → ∀ k,
        let a := pg.base + o.row.toNat * pg.cols + o.col.toNat
        t.cell k =
          if a ≤ k ∧ k < a + o.codes.length then
            ⟨o.codes.getD (k - a) 0, o.fg.toNat, o.bg.toNat, cellFlags o.flags, none, false⟩
          else s.cell k) ∧
    ∀ bytes, WrongLength (.text tag (.malformed bytes)) s) ∧
  (∀ (s : State) (tag : Byte) (o : FillOps),
    Request (.fill tag (.ops o)) s (fillChecks o s) (fun f t =>
      Answered s t f .empty ∧ t = { s with fli := t.fli, cst := { s.cst with cells := t.cst.cells } } ∧
      ∀ pg, s.page o.id.toNat = some pg → ∀ k,
        ((∃ r c, r < o.rows.toNat ∧ c < o.cols.toNat ∧
            k = pg.base + (o.top.toNat + r) * pg.cols + (o.left.toNat + c)) →
          t.cell k = ⟨o.code, o.fg.toNat, o.bg.toNat, cellFlags o.flags, none, false⟩) ∧
        ((∀ r c, r < o.rows.toNat → c < o.cols.toNat →
            k ≠ pg.base + (o.top.toNat + r) * pg.cols + (o.left.toNat + c)) →
          t.cell k = s.cell k)) ∧
    ∀ bytes, WrongLength (.fill tag (.malformed bytes)) s)

/-- QCELLS answers the cells as they stand and changes no state but the link's (R14). QSLOT answers the record, the
pending field set and the dirty-list position, and sets the conflation count to 0 (R36). -/
def Obligations.QcellsAndQslotRead : Prop :=
  (∀ (s : State) (tag : Byte) (o : QcellsOps),
    Request (.qcells tag (.ops o)) s (qcellsChecks o s) (fun f t =>
      t = { s with fli := t.fli } ∧
      ∀ pg, s.page o.id.toNat = some pg →
        Answered s t f (.cells ((List.range o.count.toNat).map fun j =>
          s.cell (pg.base + o.row.toNat * pg.cols + (o.col.toNat + j))))) ∧
    ∀ bytes, WrongLength (.qcells tag (.malformed bytes)) s) ∧
  (∀ (s : State) (tag : Byte) (o : QslotOps),
    Request (.qslot tag (.ops o)) s [] (fun f t =>
      let n := o.slot.toNat
      Answered s t f (.slot (s.slot n) ((List.range 8).filter fun i => (s.pendingValue n i).isSome)
        (s.upq.dirty.findIdx? fun m => m = n)) ∧
      t = { s with fli := t.fli, itb := { s.itb with slots := t.itb.slots } } ∧
      ∀ m, t.slot m = if m = n then { s.slot n with conflation := 0 } else s.slot m) ∧
    ∀ bytes, WrongLength (.qslot tag (.malformed bytes)) s)

/-! ## Composition -/

/-- PANE writes the pane's staged record whole, and in BANNER sets the banner end (R124, R125). SCROLL sets the source
origin of the pane's staged record and leaves every other part (R126). CLIP writes the window's staged record whole
(R127). -/
def Obligations.PaneScrollClipStage : Prop :=
  (∀ (s : State) (tag : Byte) (o : PaneOps),
    Request (.pane tag (.ops o)) s (paneChecks o s) (fun f t =>
      Answered s t f .empty ∧
      t = { s with
        fli := t.fli
        sco := { s.sco with
          staged := { s.sco.staged with panes := t.sco.staged.panes }
          bannerEnd := s.sco.bannerEnd || decide (s.sco.display = .banner) } } ∧
      ∀ q, t.sco.staged.pane q =
        if q = o.pane.toNat then
          { kind := if o.kind = 0 then .page else .crawl
            page := if o.kind = 0 ∧ o.page ≠ 0xFF then some o.page.toNat else none
            srcRow := if o.kind = 0 then o.srcRow.toNat else 0
            srcCol := if o.kind = 0 then o.srcCol.toNat else 0
            scrRow := o.scrRow.toNat, scrCol := o.scrCol.toNat, rows := o.rows.toNat, cols := o.cols.toNat
            priority := o.priority.toNat, w0 := clipMode o.w0, w1 := clipMode o.w1
            logic := if o.logic = 0 then .or else .and }
        else s.sco.staged.pane q) ∧
    ∀ bytes, WrongLength (.pane tag (.malformed bytes)) s) ∧
  (∀ (s : State) (tag : Byte) (o : ScrollOps),
    Request (.scroll tag (.ops o)) s (scrollChecks o s) (fun f t =>
      Answered s t f .empty ∧
      t = { s with
        fli := t.fli
        sco := { s.sco with staged := { s.sco.staged with panes := t.sco.staged.panes } } } ∧
      ∀ q, t.sco.staged.pane q =
        if q = o.pane.toNat then
          { s.sco.staged.pane q with srcRow := o.row.toNat, srcCol := o.col.toNat }
        else s.sco.staged.pane q) ∧
    ∀ bytes, WrongLength (.scroll tag (.malformed bytes)) s) ∧
  (∀ (s : State) (tag : Byte) (o : ClipOps),
    Request (.clip tag (.ops o)) s (clipChecks o) (fun f t =>
      Answered s t f .empty ∧
      let w : Window := ⟨o.top.toNat, o.left.toNat, o.rows.toNat, o.cols.toNat⟩
      t = { s with
        fli := t.fli
        sco := { s.sco with
          staged := { s.sco.staged with
            w0 := if o.window = 0 then w else s.sco.staged.w0
            w1 := if o.window = 0 then s.sco.staged.w1 else w } } }) ∧
    ∀ bytes, WrongLength (.clip tag (.malformed bytes)) s)

/-- CRAWL appends one character for each code; CRAWLCTL sets the speed and the blank colour, and with CLEAR empties the
ring and reloads the lead (R134, R135). A CRAWL into the empty ring with the lead at 0 is noted until the next step, which
then removes nothing (R138, row 1, where the model follows it and not R136: its choice, log 29). -/
def Obligations.CrawlRequests : Prop :=
  (∀ (s : State) (tag : Byte) (o : CrawlOps),
    Request (.crawl tag (.ops o)) s (crawlChecks o s) (fun f t =>
      Answered s t f (.ring (s.sco.ring.length + o.codes.length)) ∧
      t = { s with
        fli := t.fli
        sco := { s.sco with
          ring := s.sco.ring ++ o.codes.map fun c => ⟨c, o.fg.toNat, o.bg.toNat⟩
          entered := s.sco.entered || decide (s.sco.ring = [] ∧ s.sco.lead = 0) } }) ∧
    ∀ bytes, WrongLength (.crawl tag (.malformed bytes)) s) ∧
  ∀ (s : State) (tag : Byte) (o : CrawlctlOps),
    Request (.crawlctl tag (.ops o)) s (crawlctlChecks o) (fun f t =>
      Answered s t f (.ring (if o.clear = 1 then 0 else s.sco.ring.length)) ∧
      t = { s with
        fli := t.fli
        sco := { s.sco with
          speed := o.speed.toNat
          blank := o.blank.toNat
          ring := if o.clear = 1 then [] else s.sco.ring
          lead := if o.clear = 1 then (s.sco.active.crawlPane.elim 0 fun p => p.cols) else s.sco.lead
          offset := if o.clear = 1 then 0 else s.sco.offset
          entered := if o.clear = 1 then false else s.sco.entered } }) ∧
    ∀ bytes, WrongLength (.crawlctl tag (.malformed bytes)) s

/-- A pane is a candidate for a screen cell when its priority is 1 or more, its rectangle holds the cell, and it is not
cut there (R121, R122, R129). The pane that the cell shows is a candidate, and every other candidate has a lower
priority, or the same priority and a number not lower; with no candidate the cell shows none (R129). Outside the partial
band a cell shows the back colour (R128, R165). In PANES it shows the winner's page cell, the back colour beyond the
page, the crawl, or with no winner the back colour (R129 to R131, R137); in BANNER the banner line in the middle of the
grid, else the back colour (R132). -/
def Obligations.HighestCandidateWins : Prop :=
  (∀ (k : Composition) (r c : Nat),
    (∀ p, k.candidate p r c = true ↔
      1 ≤ p.priority ∧ (p.scrRow ≤ r ∧ r < p.scrRow + p.rows ∧ p.scrCol ≤ c ∧ c < p.scrCol + p.cols) ∧
        ¬ isCut k p r c) ∧
    (∀ p, k.winner r c = some p →
      ∃ n < 8, k.pane n = p ∧ k.candidate p r c = true ∧
        ∀ m < 8, k.candidate (k.pane m) r c = true →
          (k.pane m).priority < p.priority ∨ ((k.pane m).priority = p.priority ∧ n ≤ m)) ∧
    (k.winner r c = none → ∀ m < 8, k.candidate (k.pane m) r c = false)) ∧
  ∀ (s : State) (r c : Nat), r < s.dtg.activeFormat.gridRows → c < s.dtg.activeFormat.gridCols →
    let inBand := s.dtg.activeArea = .full ∨ ∃ a b, s.dtg.activeArea = .band a b ∧ a ≤ r ∧ r ≤ b
    (¬ inBand → s.shown r c = .back) ∧
    (inBand → s.sco.display = .panes →
      (s.sco.active.winner r c = none → s.shown r c = .back) ∧
      ∀ p, s.sco.active.winner r c = some p →
        let pr := p.srcRow + (r - p.scrRow)
        let pc := p.srcCol + (c - p.scrCol)
        (p.kind = .crawl → s.shown r c = .crawl ((c - p.scrCol) * s.dtg.activeFormat.cellW)) ∧
        (p.kind = .page → ∀ pg, p.page.bind s.page = some pg →
          s.shown r c = if pr < pg.rows ∧ pc < pg.cols then .cell (pg.base + pr * pg.cols + pc) else .back) ∧
        (p.kind = .page → p.page.bind s.page = none → s.shown r c = .back)) ∧
    (inBand → s.sco.display = .banner →
      let left := (s.dtg.activeFormat.gridCols - s.gcu.banner.length) / 2
      s.shown r c =
        if r = s.dtg.activeFormat.gridRows / 2 ∧ left ≤ c ∧ c < left + s.gcu.banner.length then
          .banner (s.gcu.banner.getD (c - left) 0)
        else .back)

/-! ## Instruments, layouts, placements -/

/-- DEFINE makes the slot QUIET with its symbol, scale, flash style and stale interval, every other part at its FREE
value (R21, R22). -/
def Obligations.DefineSetsSlot : Prop :=
  ∀ (s : State) (tag : Byte) (o : DefineOps),
    Request (.define tag (.ops o)) s (defineChecks o s) (fun f t =>
      Answered s t f .empty ∧ t = { s with fli := t.fli, itb := { s.itb with slots := t.itb.slots } } ∧
      ∀ n, t.slot n =
        if n = o.slot.toNat then
          { state := .quiet, symbol := o.symbol, scale := some (scaleOf o), flashStyle := o.flashStyle.toNat
            stale := o.stale.toNat, age := 0, lastTake := none, values := [], moves := [], placements := []
            high := .disarmed, low := .disarmed, conflation := 0 }
        else s.slot n) ∧
    ∀ bytes, WrongLength (.define tag (.malformed bytes)) s

/-- DROP, in one action: the slot's pending entries, its place on the dirty list, its flash entries, its alerts and its
placements go, its column cells are blanked in list order, and the slot is FREE; another cell loses its flash reference only where that
named an entry of the slot. The reply counts the pending entries and the alerts (R23 to R25). -/
def Obligations.DropEmptiesSlot : Prop :=
  ∀ (s : State) (tag : Byte) (o : DropOps), Table.wf none s.fau.flash = true → Table.wf .blank s.cst.cells = true →
    Request (.drop tag (.ops o)) s [(decide ((s.slot o.slot.toNat).state ≠ .free), .noSlot)] (fun f t =>
      let n := o.slot.toNat
      Answered s t f (.dropped ((List.range 8).countP fun i => (s.pendingValue n i).isSome)
        (s.fau.alerts.countP fun a => a.slot = n)) ∧
      t = { s with
        fli := t.fli
        cst := { s.cst with cells := t.cst.cells }
        itb := { s.itb with slots := t.itb.slots }
        upq := { s.upq with pool := t.upq.pool, dirty := s.upq.dirty.filter fun m => m ≠ n }
        fau := { t.fau with
          order := s.fau.order.filter fun i => ((s.flashEntry i).all fun x => x.slot ≠ n)
          alerts := s.fau.alerts.filter fun a => a.slot ≠ n } } ∧
      (∀ m, t.slot m = if m = n then .empty else s.slot m) ∧
      (∀ m i, i < 8 → t.pendingValue m i = if m = n then none else s.pendingValue m i) ∧
      (∀ i, t.flashEntry i = (s.flashEntry i).filter fun x => x.slot ≠ n) ∧
      blankedCells s t (s.slot n).placements) ∧
    ∀ bytes, WrongLength (.drop tag (.malformed bytes)) s

/-- LAYOUT defines the layout with the request's columns, in their order, and answers its extent (R28, R29). -/
def Obligations.LayoutDefines : Prop :=
  ∀ (s : State) (tag : Byte) (o : LayoutOps),
    Request (.layout tag (.ops o)) s (layoutChecks o s) (fun f t =>
      t = { s with fli := t.fli, itb := { s.itb with layouts := t.itb.layouts } } ∧
      (∃ cs, t.layout o.layout.toNat = some cs ∧ List.Forall₂ columnFrom o.columns cs) ∧
      (∀ l, l ≠ o.layout.toNat → t.layout l = s.layout l) ∧
      ∃ e, Answered s t f (.extent e) ∧ (∀ c ∈ o.columns, c.offset.toNat + c.width.toNat ≤ e) ∧
        ∃ c ∈ o.columns, c.offset.toNat + c.width.toNat = e) ∧
    ∀ bytes, WrongLength (.layout tag (.malformed bytes)) s

/-- PLACE appends the placement, appends its span to each entry of the slot whose field the layout shows, and paints the
new placement's column cells, and no other cell, from the committed values (R32, R33). -/
def Obligations.PlaceAppendsAndPaints : Prop :=
  ∀ (s : State) (tag : Byte) (o : PlaceOps), Table.wf none s.fau.flash = true → s.layoutLaw →
    Request (.place tag (.ops o)) s (placeChecks o s) (fun f t =>
      let n := o.slot.toNat
      let p : Placement := ⟨o.page.toNat, o.row.toNat, o.col.toNat, o.layout.toNat⟩
      Answered s t f (.index (s.slot n).placements.length) ∧
      t = { s with
        fli := t.fli
        cst := { s.cst with cells := t.cst.cells }
        itb := { s.itb with slots := t.itb.slots }
        fau := { s.fau with flash := t.fau.flash } } ∧
      (∀ m, t.slot m = if m = n then { s.slot n with placements := (s.slot n).placements ++ [p] } else s.slot m) ∧
      ∀ pg cs, s.page p.page = some pg → s.layout p.layout = some cs →
        let a := pg.base + p.row * pg.cols + p.col
        (∀ i, t.flashEntry i = (s.flashEntry i).map fun x =>
          if x.slot = n then
            { x with
              spans := x.spans ++ ((cs.filter fun c => c.source = .field x.field).map fun c =>
                ⟨p.page, a + c.offset, c.width⟩) }
          else x) ∧
        (∀ c ∈ cs, ∀ j < c.width, some (t.cell (a + c.offset + j)) = (t.columnCells n c)[j]?) ∧
        ∀ k, (∀ c, ¬ inColumn s p c k) → t.cell k = s.cell k) ∧
    ∀ bytes, WrongLength (.place tag (.malformed bytes)) s

/-- UNPLACE blanks the placement's column cells, removes its record and its spans, and leaves the other placements in
their order (R34, R35). -/
def Obligations.UnplaceRemoves : Prop :=
  ∀ (s : State) (tag : Byte) (o : UnplaceOps), Table.wf none s.fau.flash = true →
    (∀ i x, s.flashEntry i = some x → x.spans = s.spansOf x.slot x.field) →
    Request (.unplace tag (.ops o)) s (unplaceChecks o s) (fun f t =>
      let n := o.slot.toNat
      Answered s t f .empty ∧
      t = { s with
        fli := t.fli
        cst := { s.cst with cells := t.cst.cells }
        itb := { s.itb with slots := t.itb.slots }
        fau := { s.fau with flash := t.fau.flash } } ∧
      (∀ m, t.slot m =
        if m = n then { s.slot n with placements := (s.slot n).placements.eraseIdx o.index.toNat } else s.slot m) ∧
      (∀ i, t.flashEntry i = (s.flashEntry i).map fun x =>
        if x.slot = n then { x with spans := t.spansOf n x.field } else x) ∧
      ∀ p, (s.slot n).placements[o.index.toNat]? = some p →
        ∀ k, (inPlacements s [p] k → ∃ c, inColumn s p c k ∧ t.cell k = blanked (s.style c.style)) ∧
          (¬ inPlacements s [p] k → t.cell k = s.cell k)) ∧
    ∀ bytes, WrongLength (.unplace tag (.malformed bytes)) s

/-! ## Quotes, limits, alerts -/

/-- POST: its checks in order; PENDING_FULL sets OVERLOAD on, the clean count to 0 and the refusal mark on, and nothing
else; an accepted POST gives every pair's field its value, raises the conflation count by the pairs that overwrote,
and puts a slot that had no entry at the tail of the dirty list (R40 to R47). A body of a wrong length: BAD_LENGTH, but
NO_SLOT where it holds the number of a FREE slot and a pair count (R40). -/
def Obligations.PostQueuesOrIsRefused : Prop :=
  (∀ (s : State) (tag : Byte) (o : PostOps) (f : Frame), encodeFrame (.post tag (.ops o)) = some f → s.canTake f = true →
    let n := o.slot.toNat
    match firstFailure (postChecks o s) with
    | some st => exec (.post tag (.ops o)) s = .next (refused s f st)
    | none =>
      if 512 - s.upq.pool.length < newPairs o s then
        let u := { s.upq with overload := true, clean := 0, mark := true }
        exec (.post tag (.ops o)) s =
          .next { s with upq := u, fli := linkAfter s { s with upq := u } f .pendingFull .empty }
      else
        ∃ t, exec (.post tag (.ops o)) s = .next t ∧
          Answered s t f (.merged (o.pairs.length - newPairs o s)) ∧
          t = { s with
            fli := t.fli
            itb := { s.itb with slots := t.itb.slots }
            upq := { s.upq with
              pool := t.upq.pool
              dirty := if ∀ i < 8, s.pendingValue n i = none then s.upq.dirty ++ [n] else s.upq.dirty } } ∧
          (∀ m i, i < 8 → t.pendingValue m i =
            if m = n then
              match o.pairs.find? fun p => p.field.toNat = i with
              | some p => some p.value.toInt
              | none => s.pendingValue m i
            else s.pendingValue m i) ∧
          ∀ m, t.slot m =
            if m = n then
              { s.slot n with
                conflation := min ((s.slot n).conflation + (o.pairs.length - newPairs o s)) 65535 }
            else s.slot m) ∧
  (∀ (s : State) (tag : Byte) (bytes : List Byte), s.canTake ⟨0x25, tag, bytes⟩ = true →
    exec (.post tag (.malformed bytes)) s = .next (refused s ⟨0x25, tag, bytes⟩
      (match bytes with
        | slot :: _ :: _ => if (s.slot slot.toNat).state = .free then .noSlot else .badLength
        | _ => .badLength)))

/-- LIMIT arms or disarms the limit, and answers its state and the device count (R111, R112). -/
def Obligations.LimitArms : Prop :=
  ∀ (s : State) (tag : Byte) (o : LimitOps),
    Request (.limit tag (.ops o)) s (limitChecks o s (sideOf o.limit)) (fun f t =>
      let n := o.slot.toNat
      let side := sideOf o.limit
      let l := if o.action = 0 then Limit.armed (o.level.getD 0).toInt else .disarmed
      Answered s t f (.limit l t.limitCount) ∧
      t = { s with fli := t.fli, itb := { s.itb with slots := t.itb.slots } } ∧
      (∀ m, t.slot m = if m = n then withLimit (s.slot n) side l else s.slot m) ∧
      (Table.wf .empty s.itb.slots = true →
        t.limitCount + ((s.slot n).limit side).counts.toNat = s.limitCount + l.counts.toNat)) ∧
    ∀ bytes, WrongLength (.limit tag (.malformed bytes)) s

/-- ACK of a FIRED limit: its record leaves the alert queue, the limit is DISARMED, and the slot's ALERT entry ends if
the other limit is not FIRED; it leaves the age order, and the cells of its spans that name it lose their reference, as no
other cell does (R106, R115). -/
def Obligations.AckAcknowledges : Prop :=
  ∀ (s : State) (tag : Byte) (o : AckOps), s.canonical → s.flashLaw →
    Request (.ack tag (.ops o)) s
      [(decide (o.limit.toNat ≤ 1), .badValue), (decide ((s.slot o.slot.toNat).state ≠ .free), .noSlot),
       (((s.slot o.slot.toNat).limit (sideOf o.limit)).isFired, .notFired)] (fun f t =>
      let n := o.slot.toNat
      let side := sideOf o.limit
      Answered s t f (.left t.fau.alerts.length) ∧
      t = { s with
        fli := t.fli
        cst := { s.cst with cells := t.cst.cells }
        itb := { s.itb with slots := t.itb.slots }
        fau := { t.fau with alerts := s.fau.alerts.filter fun a => !(decide (a.slot = n) && decide (a.side = side)) } } ∧
      (∀ m, t.slot m = if m = n then withLimit (s.slot n) side .disarmed else s.slot m) ∧
      let ends := fun x : FlashEntry =>
        decide (x.slot = n) && decide (x.kind = .alert) && !((s.slot n).limit side.other).isFired
      (∀ i, t.flashEntry i = (s.flashEntry i).filter fun x => !ends x) ∧
      t.fau.order = s.fau.order.filter (fun i => !((s.flashEntry i).any ends)) ∧
      ∀ k, keepsOrLosesReference s t k) ∧
    ∀ bytes, WrongLength (.ack tag (.malformed bytes)) s

/-! ## Hold, notices, status, lines -/

/-- HOLD sets the link hold and answers both holds (R71). The key hold is on exactly while some line of function HOLD has
the debounced level low, and the hold state while the link hold or the key hold is on (R56, R72). NOTE replaces the whole notice mask and answers it (R181). -/
def Obligations.HoldAndNoteSet : Prop :=
  (∀ (s : State) (tag : Byte) (o : HoldOps),
    Request (.hold tag (.ops o)) s [(decide (o.value.toNat ≤ 1), .badValue)] (fun f t =>
      Answered s t f (.holds (decide (o.value = 1)) s.keyHold) ∧
      t = { s with fli := t.fli, cme := { s.cme with linkHold := decide (o.value = 1) } }) ∧
    ∀ bytes, WrongLength (.hold tag (.malformed bytes)) s) ∧
  (∀ (s : State) (tag : Byte) (o : NoteOps),
    Request (.note tag (.ops o)) s [(decide (o.mask.toNat ≤ 7), .badValue)] (fun f t =>
      let m : NoticeMask := ⟨o.mask.getLsbD 0, o.mask.getLsbD 1, o.mask.getLsbD 2⟩
      t = { s with fli := { linkAfter s s f .ok (.mask m) with mask := m } }) ∧
    ∀ bytes, WrongLength (.note tag (.malformed bytes)) s) ∧
  ∀ s : State,
    (s.keyHold = true ↔ ∃ l < 4, (s.line l).func = .hold ∧ (s.line l).level = .low) ∧
    (s.held = true ↔ s.cme.linkHold = true ∨ s.keyHold = true)

/-- STATUS answers its items as they stand and sets the link error count to 0; IDENT answers the claimed and loaded
generations and changes nothing (R182, R191). -/
def Obligations.StatusAndIdentRead : Prop :=
  (∀ (s : State) (tag : Byte),
    Request (.status tag (.ops ⟨⟩)) s [] (fun f t =>
      t = { s with
        fli := { linkAfter s s f .ok (.status
          { counter := s.dtg.counter, phase := s.dtg.phase, format := s.dtg.activeFormat, area := s.dtg.activeArea
            colour := s.dtg.activeColour, power := s.dtg.power, linkHold := s.cme.linkHold, keyHold := s.keyHold
            overload := s.upq.overload, clean := s.upq.clean, pending := s.upq.pool.length
            dirty := s.upq.dirty.length, flashes := s.fau.flash.length, alerts := s.fau.alerts.length
            limits := s.limitCount, ring := s.sco.ring.length, inputDepth := s.fli.inQ.tail.length
            linkErrors := s.fli.linkErrors, saving := s.pst.programming.isSome }) with linkErrors := 0 } }) ∧
    ∀ bytes, WrongLength (.status tag (.malformed bytes)) s) ∧
  ∀ (s : State) (tag : Byte),
    Request (.ident tag (.ops ⟨⟩)) s [] (fun f t =>
      t = { s with
        fli := linkAfter s s f .ok
          (.ident ([1, 2, 3, 4].countP fun g => (s.gen g).claimed) s.pst.loaded) }) ∧
    ∀ bytes, WrongLength (.ident tag (.malformed bytes)) s

/-- LINES changes the lines whose function differs: edge count 0, the pin's present level as their level, debounce
stopped; it answers each line's function, level and edge count (R186, R118). -/
def Obligations.LinesSetFunctions : Prop :=
  ∀ (s : State) (tag : Byte) (o : LinesOps),
    Request (.lines tag (.ops o)) s
      [(decide (o.l0.toNat ≤ 5 ∧ o.l1.toNat ≤ 5 ∧ o.l2.toNat ≤ 5 ∧ o.l3.toNat ≤ 5), .badValue)] (fun f t =>
      t = { s with fli := t.fli, lnu := t.lnu } ∧
      (∀ l < 4, ∃ fn : LineFunc, [o.l0, o.l1, o.l2, o.l3][l]? = some fn.byte ∧
        t.line l =
          if (s.line l).func = fn then s.line l else ⟨fn, (s.line l).pin, (s.line l).pin, 0, false⟩) ∧
      Answered s t f (.lines ((List.range 4).map fun l =>
        ((t.line l).func,
         (match (t.line l).func with
          | .lamp => if s.fau.alerts = [] then .high else .low
          | .out0 => .low
          | .out1 => .high
          | _ => (t.line l).level),
         (t.line l).edges)))) ∧
    ∀ bytes, WrongLength (.lines tag (.malformed bytes)) s

/-! ## The profile store and the resets -/

/-- SAVE claims the lowest unclaimed generation, copies the six data items, reserves a reply place, and gets no reply
(R190). Its completion sets the done mark over its data, makes the store IDLE, and queues the reply in the reserved
place, with the SAVE's tag and the flags as they stand (R190); with no SAVE in flight nothing completes (the model's
choice, log 3). -/
def Obligations.SaveClaimsAndCompletes : Prop :=
  (∀ (s : State) (tag : Byte),
    Request (.save tag (.ops ⟨⟩)) s
      [(s.pst.programming.isNone, .busy), ([1, 2, 3, 4].any fun g => !(s.gen g).claimed, .storeFull)] (fun _ t =>
      ∃ g, g ∈ [1, 2, 3, 4] ∧ (s.gen g).claimed = false ∧ (∀ h ∈ [1, 2, 3, 4], h < g → (s.gen h).claimed = true) ∧
        t = { s with
          fli := { s.fli with inQ := s.fli.inQ.tail, reserved := s.fli.reserved + 1 }
          pst := { s.pst with
            gens := t.pst.gens
            programming := some ⟨g, tag,
              ⟨s.dtg.stagedFormat, s.gcu.palette, s.gcu.styles, s.gcu.back, s.gcu.dim, s.gcu.banner⟩⟩ } } ∧
        ∀ h, t.gen h = if h = g then { s.gen g with claimed := true } else s.gen h) ∧
    ∀ bytes, WrongLength (.save tag (.malformed bytes)) s) ∧
  (∀ s : State,
    (s.pst.programming = none → exec .saveCompletion s = .next s) ∧
    ∀ p, s.pst.programming = some p →
      ∃ t, exec .saveCompletion s = .next t ∧
        t = { s with
          fli := { s.fli with
            outQ := s.fli.outQ ++ [.reply 0xB4 p.tag .ok s.replyFlags (.generation p.generation)]
            overrun := false
            nlost := false
            reserved := s.fli.reserved - 1 }
          pst := { s.pst with gens := t.pst.gens, programming := none } } ∧
        ∀ h, t.gen h = if h = p.generation then { s.gen h with done := some p.data } else s.gen h)

/-- The profile that a reset of `s` loads, and its number: that of the highest done generation, else 0 with the factory
profile (R191). -/
def Sys2Proof.Claims.Loads (s : State) (n : Nat) (p : Profile) : Prop :=
  (n ∈ [1, 2, 3, 4] ∧ (s.gen n).done = some p ∧ ∀ h ∈ [1, 2, 3, 4], n < h → (s.gen h).done = none) ∨
  (n = 0 ∧ (∀ h ∈ [1, 2, 3, 4], (s.gen h).done = none) ∧
    p = ⟨.f1, Config.factoryPalette, [], 0, 96, Config.factoryBanner⟩)

/-- The state that a reset leaves, with the link `f`, the glyph RAM `glyphs` and the programming state `q`: every block
at its reset values under the loaded profile, the lines IN at their pins' levels, the generations kept. -/
def Sys2Proof.Claims.ResetTo (s t : State) (f : Fli) (glyphs : Table GlyphRow) (q : Option Programming) : Prop :=
  ∃ n p, Loads s n p ∧
    t = { pending := s.pending, choices := s.choices, fli := f
          cst := ⟨[], []⟩, itb := ⟨[], []⟩, upq := ⟨[], [], false, 0, false⟩
          cme := ⟨.idle, 0, 0, 0, 0, false, false⟩
          fau := ⟨[], [], []⟩
          sco := ⟨⟨[], .empty, .empty⟩, ⟨[], .empty, .empty⟩, .banner, false, [], 0, 0, 1, 0, false⟩
          gcu := ⟨glyphs, [], p.palette, p.styles, p.back, p.dim, p.banner⟩
          dtg := ⟨p.format, p.format, .full, .full, .full, .full, .awake, .awake, 0, .blank, true⟩
          lnu := t.lnu
          pst := ⟨s.pst.gens, q, n⟩ } ∧
    ∀ l, t.line l = ⟨.input, (s.line l).pin, (s.line l).pin, 0, false⟩

/-- Power-on clears the glyph RAM and hard reset keeps it; both abort a SAVE, and both set every other item to its reset
value under the profile they load. RESET empties both queues, sets every item to its soft reset value, keeps the glyph
RAM, the programming state and a reserved reply place, and queues its own reply first (R192, R183, R193). The pin of
HRDY is no item of a reset. The model's choices in this: the debounce timers are stopped (log 9); frame start 1 is a
command of its own, so that the reset leaves the counter 0 with `restart` on (log 10); HARD_RESET is assertion and
release in one step (log 13); after RESET no frame is being sent and its reply stands alone (log 15), and RDY follows
the queue at once (log 27). -/
def Obligations.ResetsSetEverything : Prop :=
  (∀ s : State, Table.wf .idle s.lnu.lines = true →
    let f : Fli := ⟨.hunt, [], false, [], [], none, 0, 0, false, false, ⟨true, false, false⟩, s.fli.hrdy, .waitFrame⟩
    (∃ t, exec .powerOnReset s = .next t ∧ ResetTo s t f [] none) ∧
    ∃ t, exec .hardReset s = .next t ∧ ResetTo s t f s.gcu.glyphs none) ∧
  (∀ (s : State) (tag : Byte), Table.wf .idle s.lnu.lines = true →
    Request (.reset tag (.ops ⟨⟩)) s [] (fun _ t =>
      ResetTo s t ⟨.hunt, [], false, [], [.reply 0xBF tag .ok ⟨false, false, false, false, false⟩ .empty], none,
        s.fli.reserved, 0, false, false, ⟨true, false, false⟩, s.fli.hrdy, .following⟩ s.gcu.glyphs s.pst.programming) ∧
    ∀ bytes, WrongLength (.reset tag (.malformed bytes)) s)

/-- The state after power-on of a part as delivered is the one that a power-on reset makes of it, and it meets every law
of the machine. -/
def Obligations.ResetMeetsEveryLaw : Prop :=
  exec .powerOnReset State.reset = .next State.reset ∧
  State.reset.canonical ∧ State.reset.linkLaw ∧ State.reset.fli.receiverLaw ∧ State.reset.slotLaw ∧
  State.reset.queueLaw ∧ State.reset.commitLaw ∧ State.reset.pageLaw ∧ State.reset.layoutLaw ∧
  State.reset.placementLaw ∧ State.reset.compositionLaw ∧ State.reset.crawlLaw ∧ State.reset.alertLaw ∧
  State.reset.flashLaw ∧ State.reset.referenceLaw ∧ State.reset.rangeLaw

/-- RDY is high exactly while it follows the input record queue and that holds 5 frames or fewer (R174); it begins to
follow 2 ms after frame start 1 (R193), which is the command RDY_RISE; before that time and after it the command
changes nothing (the model's choice, log 3). -/
def Obligations.RdyFollowsQueue : Prop :=
  ∀ s : State,
    (s.rdy = .high ↔ s.fli.rdyStart = .following ∧ s.fli.inQ.length ≤ 5) ∧
    exec .rdyRise s = .next { s with
      fli := { s.fli with rdyStart := if s.fli.rdyStart = .timing then .following else s.fli.rdyStart } }

/-! ## Frame start, scan start, sleep -/

/-- The generator is at the point where a frame ends: awake, and at the end of the active lines or at the start of its
timing (R160, R168, R169). -/
def Sys2Proof.Claims.atFrameEnd (s : State) : Prop :=
  s.dtg.power = .awake ∧ (s.dtg.phase = .scan ∨ s.dtg.restart = true)

/-- At a frame start the counter rises, the staged format, area and colour become active and the phase is BLANK (R161);
the blocks the frame start does not concern keep what they hold. -/
def Obligations.FrameStartApplies : Prop :=
  ∀ s : State, atFrameEnd s → s.dtg.stagedPower = .awake →
    ∃ t, exec .frameStart s = .next t ∧
      t = { s with
        choices := t.choices
        fli := { s.fli with
          outQ := t.fli.outQ
          nlost := t.fli.nlost
          rdyStart := if s.fli.rdyStart = .waitFrame then .timing else s.fli.rdyStart }
        cst := { s.cst with cells := t.cst.cells }
        itb := { s.itb with slots := t.itb.slots }
        upq := t.upq, cme := t.cme, fau := t.fau, sco := t.sco
        dtg := { s.dtg with
          counter := s.dtg.counter + 1
          activeFormat := s.dtg.stagedFormat
          activeArea := s.dtg.stagedArea
          activeColour := s.dtg.stagedColour
          phase := .blank
          restart := false } }

/-- With ASLEEP staged, the end of the frame is no frame start: the power becomes ASLEEP and the phase BLANK, the
counter and the staged settings stay, and no block receives a frame start (R166). Events that the spec does not let
come where the generator stands change nothing (the model's choice, log 3). -/
def Obligations.SleepEntryAndEventsOutOfPlace : Prop :=
  (∀ s : State, atFrameEnd s → s.dtg.stagedPower = .asleep →
    exec .sleepEntry s = .next { s with
      dtg := { s.dtg with power := .asleep, phase := .blank, restart := false } } ∧
    exec .frameStart s = exec .sleepEntry s) ∧
  (∀ s : State,
    (¬ atFrameEnd s → exec .frameStart s = .next s ∧ exec .sleepEntry s = .next s) ∧
    (s.dtg.stagedPower = .awake → exec .sleepEntry s = .next s) ∧
    (¬ (s.dtg.power = .awake ∧ s.dtg.phase = .blank ∧ s.dtg.restart = false) → exec .scanStart s = .next s) ∧
    (s.cme.state = .idle → exec .commitStep s = .next s))

/-- The clean frame count at a frame start, held or not: a refusal mark found on goes off and the count stays 0, else the
count rises, saturating at 64, and OVERLOAD goes off when it is 64 (R53, R54). A frame start whose hold is off begins a
commit with the budget 192 and queues nothing (R57, R58). Asleep no frame start comes, and the command changes nothing
(the model's choice, log 3). -/
def Obligations.FrameStartCountsAndBeginsCommit : Prop :=
  (∀ s : State, atFrameEnd s → s.dtg.stagedPower = .awake → (s.upq.mark = true → s.upq.clean = 0) →
    ∃ t, exec .frameStart s = .next t ∧
      t.upq = { s.upq with
        mark := false
        clean := if s.upq.mark then s.upq.clean else if s.upq.clean < 64 then s.upq.clean + 1 else 64
        overload := s.upq.overload && (s.upq.mark || decide (s.upq.clean + 1 < 64)) }) ∧
  (∀ s : State, atFrameEnd s → s.dtg.stagedPower = .awake → s.held = false →
    ∃ t, exec .frameStart s = .next t ∧
      t.cme = ⟨.committing, s.dtg.counter + 1, 192, 0, 0, s.cme.linkHold, false⟩ ∧
      t.fli.outQ = s.fli.outQ ∧ t.fli.nlost = s.fli.nlost) ∧
  ∀ s : State, s.dtg.power = .asleep → exec .frameStart s = .next s

/-- A held frame start begins no commit, leaves the pool and the list, the flash table, the slots, the cells and the
crawl ring, and queues a held FRAME notice if they are enabled (R57, R59, R105, R107). The crawl does not advance: its
lead and offset are those that the load leaves, the lead no more than the staged crawl pane's cols, the offset 0 at a
change of format, else as they stood (R123, R136, R139). What the notice
shows for OVERLOAD where the clean count of the same frame start changes it is left open (log 7): it shows the value
before or the value after. -/
def Obligations.HeldFrameStart : Prop :=
  ∀ s : State, atFrameEnd s → s.dtg.stagedPower = .awake → s.held = true →
    ∃ t, exec .frameStart s = .next t ∧
      t.cme = { s.cme with frame := s.dtg.counter + 1, slotsTaken := 0, entriesTaken := 0, frameHold := true } ∧
      t.upq.pool = s.upq.pool ∧ t.upq.dirty = s.upq.dirty ∧ t.fau = s.fau ∧ t.itb = s.itb ∧ t.cst = s.cst ∧
      t.sco.ring = s.sco.ring ∧ t.sco.entered = s.sco.entered ∧
      t.sco.lead = (s.sco.staged.crawlPane.elim 0 fun p => min s.sco.lead p.cols) ∧
      t.sco.offset = (if s.dtg.stagedFormat = s.dtg.activeFormat then s.sco.offset else 0) ∧
      ∃ ov, (ov = s.upq.overload ∨ ov = t.upq.overload) ∧
        t.fli = { (if s.fli.mask.frame then
            offered s.fli (.frame (s.dtg.counter + 1) 0 0 s.upq.pool.length s.upq.dirty.length ov true)
          else s.fli) with rdyStart := t.fli.rdyStart }

/-- At an unheld frame start every moving entry not stamped with this frame loses one frame of remaining, and ends at 0:
it leaves the age order, the other entries keeping theirs, and the cells of its spans that name it lose their reference
(R105, R106); every cell that no slot turning STALE repaints is else unchanged. ALERT entries stand. At a held frame
start no entry decays. Asleep no frame start comes, and the command changes nothing (the model's choice, log 3). -/
def Obligations.FlashesDecay : Prop :=
  (∀ s : State, atFrameEnd s → s.dtg.stagedPower = .awake → s.held = false → s.canonical →
    ∃ t, exec .frameStart s = .next t ∧ t.fau.alerts = s.fau.alerts ∧
      (∀ i, t.flashEntry i = (s.flashEntry i).bind fun x =>
        match x.kind with
        | .alert => some x
        | .moving k len rem start =>
          if start = s.dtg.counter + 1 then some x
          else if rem ≤ 1 then none
          else some { x with kind := .moving k len (rem - 1) start }) ∧
      t.fau.order = s.fau.order.filter (fun i => (s.flashEntry i).isNone || (t.flashEntry i).isSome) ∧
      ∀ k, (lostReference s t k → (t.cell k).ref ≠ (s.cell k).ref) ∧
        ((∀ n, (s.slot n).state = .fresh → (t.slot n).state = .stale → ¬ inPlacements s (s.slot n).placements k) →
          keepsOrLosesReference s t k)) ∧
  (∀ s : State, atFrameEnd s → s.dtg.stagedPower = .awake → s.held = true →
    ∃ t, exec .frameStart s = .next t ∧ t.fau = s.fau) ∧
  ∀ s : State, s.dtg.power = .asleep → exec .frameStart s = .next s

/-- At an unheld frame start every FRESH or STALE slot not taken in this frame grows older, and a FRESH one whose age
reaches a positive stale interval turns STALE. Its placements are repainted: each column cell carries the stale mark and
holds the cell that the formatter makes for its position, in the last column painted over it, of the slot or of another
that turns STALE and shares the cell; every other cell keeps all but its flash reference (R31, R107, R108). At a held
frame start no slot ages. Asleep no frame start comes, and the command changes nothing (the model's choice, log 3). -/
def Obligations.SlotsAge : Prop :=
  (∀ s : State, atFrameEnd s → s.dtg.stagedPower = .awake → s.held = false → s.canonical →
    ∃ t, exec .frameStart s = .next t ∧
      (∀ n, t.slot n =
        let r := s.slot n
        if (r.state = .fresh ∨ r.state = .stale) ∧ r.lastTake ≠ some (s.dtg.counter + 1) then
          { r with
            age := min (r.age + 1) 65535
            state := if r.state = .fresh ∧ 0 < r.stale ∧ r.age < 65535 ∧ r.age + 1 = r.stale then .stale else r.state }
        else r) ∧
      ∀ k, ((∃ n, (s.slot n).state = .fresh ∧ (t.slot n).state = .stale ∧ inPlacements s (s.slot n).placements k) →
          (t.cell k).stale = true) ∧
        (∀ n a, (s.slot n).state = .fresh → (t.slot n).state = .stale → lastColumn s (s.slot n).placements k = some a →
          ∃ m b, (s.slot m).state = .fresh ∧ (t.slot m).state = .stale ∧
            lastColumn s (s.slot m).placements k = some b ∧ some (t.cell k) = (t.columnCells m b.2)[k - b.1]?) ∧
        ((∀ n, (s.slot n).state = .fresh → (t.slot n).state = .stale → ¬ inPlacements s (s.slot n).placements k) →
          sameButRef (t.cell k) (s.cell k))) ∧
  (∀ s : State, atFrameEnd s → s.dtg.stagedPower = .awake → s.held = true →
    ∃ t, exec .frameStart s = .next t ∧ t.itb = s.itb) ∧
  ∀ s : State, s.dtg.power = .asleep → exec .frameStart s = .next s

/-- The load at a frame start, held or not, and the crawl's advance at one that is not (R123, R136). The first step after
a CRAWL into the empty ring with the lead at 0 removes nothing and leaves the lead 0 (R138, row 1, where the model
follows it and not R136: its choice, log 29). -/
def Obligations.FrameStartLoadsComposition : Prop :=
  ∀ s : State, atFrameEnd s → s.dtg.stagedPower = .awake → s.sco.speed ≤ 8 →
    s.sco.offset < s.dtg.activeFormat.cellW →
    ∃ t, exec .frameStart s = .next t ∧
      let crawl := s.sco.staged.crawlPane
      let w := s.dtg.stagedFormat.cellW
      let lead := crawl.elim 0 fun p => min s.sco.lead p.cols
      let start := if s.dtg.stagedFormat = s.dtg.activeFormat then s.sco.offset else 0
      let moved := if s.held ∨ (crawl.all fun p => p.priority = 0) then start else start + s.sco.speed
      let cols := crawl.elim 0 fun p => p.cols
      let takes := moved ≥ w ∧ lead = 0 ∧ s.sco.entered = false
      let emptied := takes ∧ s.sco.ring.length ≤ 1
      t.sco = { s.sco with
        active := s.sco.staged
        display := if s.sco.bannerEnd then .panes else s.sco.display
        bannerEnd := false
        ring := if takes then s.sco.ring.tail else s.sco.ring
        lead := if emptied then cols else if moved ≥ w then lead - 1 else lead
        offset := if emptied then 0 else if moved ≥ w then moved - w else moved
        entered := s.sco.entered && !decide (moved ≥ w ∧ lead = 0) }

/-- At the scan start the phase becomes SCAN and a running commit ends, with its FRAME notice if they are enabled; one
that finds the Commit Engine IDLE changes nothing there (R66, R67, R68, R162). -/
def Obligations.ScanStartEndsCommit : Prop :=
  ∀ s : State, s.dtg.power = .awake → s.dtg.phase = .blank → s.dtg.restart = false →
    exec .scanStart s = .next { s with
      dtg := { s.dtg with phase := .scan }
      cme := { s.cme with state := .idle }
      fli := if s.cme.state = .committing ∧ s.fli.mask.frame = true then
          offered s.fli (.frame s.cme.frame s.cme.slotsTaken s.cme.entriesTaken s.upq.pool.length s.upq.dirty.length
            s.upq.overload false)
        else s.fli }

/-! ## The commit -/

/-- The number of pending entries of slot `n`. -/
def Sys2Proof.Claims.waiting (s : State) (n : Nat) : Nat := (List.range 8).countP fun i => (s.pendingValue n i).isSome

/-- A step that finds the dirty list empty, or a head that does not fit the budget, ends the commit: IDLE, the counts
kept, the head left, and a FRAME notice queued if they are enabled (R60, R67, R68). -/
def Obligations.CommitStepEnds : Prop :=
  ∀ s : State, s.cme.state = .committing → (∀ n, s.upq.dirty.head? = some n → s.cme.budget < waiting s n) →
    exec .commitStep s = .next { s with
      cme := { s.cme with state := .idle }
      fli := if s.fli.mask.frame then
          offered s.fli (.frame s.cme.frame s.cme.slotsTaken s.cme.entriesTaken s.upq.pool.length s.upq.dirty.length
            s.upq.overload false)
        else s.fli }

/-- The head of the dirty list fits the budget of a running commit. -/
def Sys2Proof.Claims.Taking (s : State) (n : Nat) : Prop :=
  s.cme.state = .committing ∧ s.upq.dirty.head? = some n ∧ waiting s n ≤ s.cme.budget

/-- The direction and previous value of a price field that held `old` and now stores `v` (R62). -/
def Sys2Proof.Claims.movedTo (m : Move) (old : Option Int) (v : Int) : Move :=
  match old with
  | none => ⟨.none, none⟩
  | some w => ⟨if w < v then .up else if v < w then .down else m.dir, some w⟩

/-- The take: the slot leaves the list with all its entries, which the budget pays and the counts count; the values are
stored with the directions of the price fields, and the slot is FRESH with age 0 (R61 to R63). Limits, cells, flashes
and alerts apart, nothing else changes. -/
def Obligations.TakeStoresValues : Prop :=
  ∀ (s : State) (n : Nat), Taking s n →
    ∃ t, exec .commitStep s = .next t ∧
      t = { s with
        fli := { s.fli with outQ := t.fli.outQ, nlost := t.fli.nlost }
        cst := { s.cst with cells := t.cst.cells }
        itb := { s.itb with slots := t.itb.slots }
        upq := { s.upq with pool := t.upq.pool, dirty := s.upq.dirty.tail }
        cme := { s.cme with
          budget := s.cme.budget - waiting s n
          slotsTaken := s.cme.slotsTaken + 1
          entriesTaken := s.cme.entriesTaken + waiting s n }
        fau := t.fau } ∧
      (∀ m i, i < 8 → t.pendingValue m i = if m = n then none else s.pendingValue m i) ∧
      (∀ m, m ≠ n → t.slot m = s.slot m) ∧
      (t.slot n) = { s.slot n with
        state := .fresh, age := 0, lastTake := some s.cme.frame
        values := (t.slot n).values, moves := (t.slot n).moves, high := (t.slot n).high, low := (t.slot n).low } ∧
      (∀ f : Field, (t.slot n).value f = match s.pendingValue n f.num with
        | some v => some v
        | none => (s.slot n).value f) ∧
      (∀ f ∈ [Field.bid, .ask, .last], (t.slot n).move f = match s.pendingValue n f.num with
        | some v => movedTo ((s.slot n).move f) ((s.slot n).value f) v
        | none => (s.slot n).move f) ∧
      ∀ f ∉ [Field.bid, .ask, .last], (t.slot n).move f = (s.slot n).move f

/-- The limits that fire at a LAST of `v`, with their levels, HIGH first (R113). -/
def Sys2Proof.Claims.firing (r : Slot) (v : Int) : List (Side × Int) :=
  (match r.high with
    | .armed l => if l ≤ v then [(Side.high, l)] else []
    | _ => []) ++
  match r.low with
    | .armed l => if v ≤ l then [(Side.low, l)] else []
    | _ => []

/-- The alert check of a take that stores LAST: an ARMED HIGH at or below it fires, then an ARMED LOW at or above it;
each joins the alert queue and offers its FIRED notice if they are enabled (R64, R113, R114). A take that stores no LAST
fires none. -/
def Obligations.TakeFiresLimits : Prop :=
  ∀ (s : State) (n : Nat), Taking s n →
    ∃ t, exec .commitStep s = .next t ∧
      let fires := (s.pendingValue n 2).elim [] fun v => (firing (s.slot n) v).map fun x => (x, v)
      let recs := fires.map fun x => (⟨n, x.1.1, x.1.2, x.2, s.cme.frame⟩ : AlertRec)
      t.fau.alerts = s.fau.alerts ++ recs ∧
      (∀ side, (t.slot n).limit side =
        match fires.find? fun x => x.1.1 = side with
        | some x => .fired x.1.2
        | none => (s.slot n).limit side) ∧
      t.fli = if s.fli.mask.alert then
          (recs.zipIdx.foldl (fun f a =>
            offered f (.alert .fired (s.slot n).symbol a.1 (s.fau.alerts.length + a.2 + 1))) s.fli)
        else s.fli

/-- The kind of the flash that a take starts for a price field, if its value changes (R64). -/
def Sys2Proof.Claims.moveOf (s : State) (n : Nat) (f : Field) : Option MoveKind :=
  match (s.slot n).value f, s.pendingValue n f.num with
  | some w, some v => if w < v then some .up else if v < w then some .down else none
  | _, _ => none

/-- The flash table as a function of the index, with the age order. -/
structure Sys2Proof.Claims.Flashes where
  entry : Nat → Option FlashEntry
  order : List Nat

/-- The index of the entry of slot `n` and field `f`, if there is one (R100). -/
def Sys2Proof.Claims.Flashes.indexOf (u : Flashes) (n : Nat) (f : Field) : Option Nat :=
  (List.range 128).find? fun i => (u.entry i).any fun x => decide (x.slot = n ∧ x.field = f)

/-- Entry `x` at index `i`, at the newest end of the age order (R101). -/
def Sys2Proof.Claims.Flashes.put (u : Flashes) (i : Nat) (x : FlashEntry) : Flashes :=
  ⟨fun j => if j = i then some x else u.entry j, (u.order.filter fun j => j ≠ i) ++ [i]⟩

/-- Entry `i` ended (R106). -/
def Sys2Proof.Claims.Flashes.drop (u : Flashes) (i : Nat) : Flashes :=
  ⟨fun j => if j = i then none else u.entry j, u.order.filter fun j => j ≠ i⟩

/-- A new entry: on the lowest free index, else on that of the oldest moving entry, which it pre-empts (R104). -/
def Sys2Proof.Claims.Flashes.create (u : Flashes) (x : FlashEntry) : Flashes :=
  match (List.range 128).find? fun i => (u.entry i).isNone with
  | some i => u.put i x
  | none =>
    match u.order.find? fun i => (u.entry i).any fun y => decide (y.kind ≠ .alert) with
    | some i => u.put i x
    | none => u

/-- A moving start of slot `n`, field `f`, kind `k` in the flash style `st` (the table of R103). -/
def Sys2Proof.Claims.Flashes.move (st : Style) (now : FrameNo) (n : Nat) (spans : Field → List Span) (u : Flashes)
    (m : Field × MoveKind) : Flashes :=
  let x : FlashEntry :=
    ⟨n, m.1, .moving m.2 st.f st.f now, (match m.2 with | .up => st.up | .down => st.down), spans m.1⟩
  match u.indexOf n m.1 with
  | none => if st.f = 0 then u else u.create x
  | some i =>
    if (u.entry i).any (fun y => decide (y.kind = .alert)) then u
    else if st.f = 0 then u.drop i
    else u.put i { x with spans := (u.entry i).elim [] (·.spans) }

/-- The LAST entry of slot `n` made ALERT, or created so, as a limit fires (R113, step 3). -/
def Sys2Proof.Claims.Flashes.alert (st : Style) (n : Nat) (spans : Field → List Span) (u : Flashes) : Flashes :=
  let x : FlashEntry := ⟨n, .last, .alert, st.alert, spans .last⟩
  match u.indexOf n .last with
  | none => u.create x
  | some i => u.put i { x with spans := (u.entry i).elim [] (·.spans) }

/-- The flash table and the age order after a take are exactly those that its starts make, one after another: for each
limit that fires the LAST entry becomes ALERT, then each price field that changes has its moving start by the table of
R103, which leaves an ALERT entry as it stands; a start that finds no entry takes the lowest free index, or pre-empts
the oldest moving entry, of whatever slot (R64, R100, R101, R103, R104, R113). A limit that fires while the entry is
ALERT already gives it the alert colour as it stands (R113, step 3, where R149 says otherwise: the model's choice, log
32). So a take leaves, for each price field that
changes, a moving entry of the flash style's length and colour stamped with the commit frame, none where the length is
0; and a limit that fires leaves the LAST entry ALERT in the alert colour. -/
def Obligations.TakeStartsFlashes : Prop :=
  ∀ (s : State) (n : Nat), Taking s n → s.canonical → s.alertLaw → s.flashLaw →
    ∃ t, exec .commitStep s = .next t ∧
      let st := s.style (s.slot n).flashStyle
      let fires := (s.pendingValue n 2).elim [] fun v => firing (s.slot n) v
      let moves := [Field.bid, .ask, .last].filterMap fun f => (moveOf s n f).map fun k => (f, k)
      let u := moves.foldl (Flashes.move st s.cme.frame n (s.spansOf n))
        (fires.foldl (fun u _ => Flashes.alert st n (s.spansOf n) u) ⟨s.flashEntry, s.fau.order⟩)
      ((∀ i, t.flashEntry i = u.entry i) ∧ t.fau.order = u.order) ∧
      (fires ≠ [] →
        ∃ i x, t.flashEntry i = some x ∧ x.slot = n ∧ x.field = .last ∧ x.kind = .alert ∧ x.colour = st.alert) ∧
      ∀ f ∈ [Field.bid, .ask, .last], ∀ k, moveOf s n f = some k →
        ¬ (f = .last ∧ (fires ≠ [] ∨ (s.slot n).high.isFired ∨ (s.slot n).low.isFired)) →
        (st.f = 0 → ∀ i x, t.flashEntry i = some x → ¬ (x.slot = n ∧ x.field = f)) ∧
        (1 ≤ st.f → ∃ i, t.flashEntry i = some
          ⟨n, f, .moving k st.f st.f s.cme.frame, (match k with | .up => st.up | .down => st.down), s.spansOf n f⟩)

/-- A take repaints every placement of the slot: each cell of a column holds the cell that the formatter makes for its
position in the column, of the last column that is painted over it, with the stale mark off (R31, R65). Every other cell
keeps all but a flash reference, which it loses exactly where that named an entry, with the cell in one of its spans,
that the take has ended (R104, R106). -/
def Obligations.TakeRepaints : Prop :=
  (∀ (s : State) (n : Nat), Taking s n → Table.wf .blank s.cst.cells = true →
    ∃ t, exec .commitStep s = .next t ∧
      ∀ k, match lastColumn s (s.slot n).placements k with
        | some a => some (t.cell k) = (t.columnCells n a.2)[k - a.1]? ∧ (t.cell k).stale = false
        | none => sameButRef (t.cell k) (s.cell k)) ∧
  ∀ (s : State) (n : Nat), Taking s n → s.canonical → s.alertLaw → s.flashLaw →
    ∃ t, exec .commitStep s = .next t ∧
      ∀ k, ¬ inPlacements s (s.slot n).placements k → keepsOrLosesReference s t k

/-! ## The feed link -/

/-- A byte with a good stop bit in each state of the receiver (R172), the discards left out: HUNT waits for the start
byte, LENGTH1 and LENGTH2 keep the length, PAYLOAD keeps the payload until it has its length, and a check byte that
makes the sum 0 hands the frame on: to the input record queue, or, with 8 frames there, to OVERRUN (R174). That the
gap timer runs from the start byte on is the model's reading (log 26). -/
def Obligations.ReceiverTakesByte : Prop :=
  ∀ (s : State) (b : Byte),
    let f := s.fli
    let kept := f.kept ++ [b]
    let leaves := fun g : Fli => exec (.rxdByte b false) s = .next { s with fli := g }
    (f.rxState = .hunt →
      leaves (if b = 0xA5 then { f with rxState := .length1, kept := [], gapTimer := true } else f)) ∧
    (f.rxState = .length1 → leaves { f with rxState := .length2, kept := kept, gapTimer := true }) ∧
    (f.rxState = .length2 → 2 ≤ payloadLength kept → payloadLength kept ≤ 1024 →
      leaves { f with rxState := .payload, kept := kept, gapTimer := true }) ∧
    (f.rxState = .payload →
      leaves { f with
        rxState := if kept.length = 2 + payloadLength kept then .check else .payload, kept := kept, gapTimer := true }) ∧
    ∀ hi lo kind tag body, f.rxState = .check → f.kept = hi :: lo :: kind :: tag :: body → byteSum kept = 0 →
      leaves { f with
        rxState := .hunt, kept := [], gapTimer := false
        inQ := if f.inQ.length < 8 then f.inQ ++ [⟨kind, tag, body⟩] else f.inQ
        overrun := f.overrun || decide (8 ≤ f.inQ.length) }

/-- Bytes that arrive one after another with good stop bits. -/
def Sys2Proof.Claims.receives : List Byte → State → Option State
  | [], s => some s
  | b :: rest, s =>
    match exec (.rxdByte b false) s with
    | .next t => receives rest t
    | .fault _ => none
    | .refused _ => none

/-- The frame of a request, sent byte by byte to a receiver in HUNT with room in the input record queue, leaves exactly
that request at the queue's tail and the receiver in HUNT, and changes nothing else (R171, R172, R174). -/
def Obligations.GoodFrameArrives : Prop :=
  ∀ (s : State) (f : Frame), f.body.length ≤ 1022 → s.fli.receiverLaw → s.fli.rxState = .hunt → s.fli.inQ.length < 8 →
    receives (frameBytes (f.kind :: f.tag :: f.body)) s = some { s with fli := { s.fli with inQ := s.fli.inQ ++ [f] } }

/-- The receiver back in HUNT with nothing kept, and one link error more, saturating (R173). -/
def Sys2Proof.Claims.hunting (s : State) : State :=
  { s with
    fli := { s.fli with
      rxState := .hunt, kept := [], gapTimer := false, linkErrors := min (s.fli.linkErrors + 1) 65535 } }

/-- The four discards: the expiry of the gap timer, a bad byte outside HUNT, a length outside 2 to 1,024 at the second
length byte, and a check byte that does not make the sum 0. Each counts a link error and leaves what a receiver in HUNT
comes to when the kept bytes after the start byte arrive again, the byte of the event among them unless it is bad: with
no start byte among them it hunts with nothing kept. Nothing outside the receiver, the input record queue and OVERRUN
changes. A bad byte in HUNT is dropped (R172, R173). A timer that does not run does not expire (the model's choice, log
3), and the gap timer of a frame found among the kept bytes runs (log 26). -/
def Obligations.DiscardCountsError : Prop :=
  ∀ s : State,
    (s.fli.gapTimer = true → ∃ t, exec .gapTimerExpiry s = .next t ∧ receives s.fli.kept (hunting s) = some t ∧
      t = { s with
        fli := { s.fli with
          rxState := t.fli.rxState, kept := t.fli.kept, gapTimer := t.fli.gapTimer, inQ := t.fli.inQ
          overrun := t.fli.overrun, linkErrors := t.fli.linkErrors } } ∧
      min (s.fli.linkErrors + 1) 65535 ≤ t.fli.linkErrors ∧
      (∃ new, t.fli.inQ = s.fli.inQ ++ new) ∧
      ((∀ b ∈ s.fli.kept, b ≠ 0xA5) → t = hunting s)) ∧
    (s.fli.gapTimer = false → exec .gapTimerExpiry s = .next s) ∧
    (∀ b, exec (.rxdByte b true) s =
      if s.fli.rxState = .hunt then .next s else exec .gapTimerExpiry { s with fli := { s.fli with gapTimer := true } }) ∧
    ∀ b : Byte,
      let kept := s.fli.kept ++ [b]
      (s.fli.rxState = .length2 ∧ ¬ (2 ≤ payloadLength kept ∧ payloadLength kept ≤ 1024)) ∨
        (s.fli.rxState = .check ∧ byteSum kept ≠ 0) →
      ∃ t, exec (.rxdByte b false) s = .next t ∧ receives kept (hunting s) = some t

/-- The low `k` bytes of a number, high byte first: u8, u16 and u32 of R184. -/
def Sys2Proof.Claims.bigEndian (k n : Nat) : List Byte :=
  (List.range k).map fun i => BitVec.ofNat 8 (n / 256 ^ (k - 1 - i))

/-- A value40 (R184): two's complement, 5 bytes. -/
def Sys2Proof.Claims.value40 (v : Int) : List Byte := bigEndian 5 (v % 2 ^ 40).toNat

/-- The number of a choice among the values in the order the manual lists them (R184). -/
def Sys2Proof.Claims.choice {α : Type} [DecidableEq α] (values : List α) (x : α) : Byte :=
  BitVec.ofNat 8 (values.idxOf x)

/-- OFF 0, ON 1 (R184). -/
def Sys2Proof.Claims.switch (b : Bool) : Byte := choice [false, true] b

/-- A byte whose bits from 0 on are the flags given (R184). -/
def Sys2Proof.Claims.flagBits (fs : List Bool) : Byte :=
  BitVec.ofNat 8 ((fs.zipIdx.map fun b => if b.1 then 2 ^ b.2 else 0).sum)

/-- A value that may be absent, with its presence byte, as `k` bytes (R185). -/
def Sys2Proof.Claims.present (k : Nat) (bytes : Option (List Byte)) : List Byte :=
  match bytes with
  | some bs => 1 :: bs
  | none => 0 :: List.replicate k 0

/-- The status codes in the order of their table (00). -/
def Sys2Proof.Claims.statuses : List Status :=
  [.ok, .unknownKind, .badLength, .badValue, .noSlot, .noPage, .noLayout, .inUse, .overlap, .duplicate, .full,
    .pendingFull, .notFired, .fired, .busy, .storeFull, .asleep, .range]

/-- Line functions, in the order of R186. -/
def Sys2Proof.Claims.functions : List LineFunc := [.input, .ack, .hold, .lamp, .out0, .out1]

/-- The state choice and the level of a limit (R185). -/
def Sys2Proof.Claims.limitItem (l : Limit) : Byte × Int :=
  match l with
  | .disarmed => (0, 0)
  | .armed v => (1, v)
  | .fired v => (2, v)

/-- The QSLOT body (R185). -/
def Sys2Proof.Claims.slotBody (r : Slot) (fields : List Nat) (position : Option Nat) : List Byte :=
  [choice [.free, .quiet, .fresh, .stale] r.state] ++ (bigEndian 1 r.symbol.length ++ r.symbol) ++
  (match r.scale with
    | some (.dec d) => 0 :: bigEndian 1 d
    | some (.frac k) => 1 :: bigEndian 1 k
    | some .h32 => [2, 0]
    | none => [0xFF, 0]) ++
  bigEndian 1 r.flashStyle ++ bigEndian 2 r.stale ++ bigEndian 2 r.age ++
  present 4 (r.lastTake.map fun n => bigEndian 4 n.toNat) ++
  ([Field.bid, .ask, .last, .bsize, .asize, .volume, .ref, .time].flatMap fun f => present 5 ((r.value f).map value40)) ++
  ([Field.bid, .ask, .last].map fun f => choice [.none, .up, .down] (r.move f).dir) ++
  ([Field.bid, .ask, .last].flatMap fun f => present 5 ((r.move f).prev.map value40)) ++
  bigEndian 1 r.placements.length ++
  (r.placements.flatMap fun p => bigEndian 1 p.page ++ bigEndian 1 p.row ++ bigEndian 1 p.col ++ bigEndian 1 p.layout) ++
  ([r.high, r.low].flatMap fun l => (limitItem l).1 :: value40 (limitItem l).2) ++
  bigEndian 2 r.conflation ++ bigEndian 1 ((fields.map fun i => 2 ^ i).sum) ++ bigEndian 2 (position.getD 0xFFFF)

/-- The STATUS body (R185). -/
def Sys2Proof.Claims.statusItems (b : StatusBody) : List Byte :=
  bigEndian 4 b.counter.toNat ++ [choice [.blank, .scan] b.phase, choice [.f0, .f1, .f2, .f3] b.format] ++
  (match b.area with
    | .full => [0, 0, 0]
    | .band first last => 1 :: (bigEndian 1 first ++ bigEndian 1 last)) ++
  [choice [.full, .reduced] b.colour, choice [.awake, .asleep] b.power, switch b.linkHold, switch b.keyHold,
    switch b.overload] ++
  bigEndian 1 b.clean ++ bigEndian 2 b.pending ++ bigEndian 2 b.dirty ++ bigEndian 1 b.flashes ++ bigEndian 1 b.alerts ++
  bigEndian 1 b.limits ++ bigEndian 2 b.ring ++ bigEndian 1 b.inputDepth ++ bigEndian 2 b.linkErrors ++
  [switch b.saving]

/-- The body of a reply, by the tables of R185; IDENT's family 0x5A, part 710, revision 1 and 3 banks are R191's. -/
def Sys2Proof.Claims.bodyBytes : ReplyBody → List Byte
  | .empty => []
  | .power p => [choice [.awake, .asleep] p]
  | .dropped entries alerts => bigEndian 1 entries ++ bigEndian 1 alerts
  | .extent n => bigEndian 1 n
  | .index n => bigEndian 1 n
  | .merged n => bigEndian 1 n
  | .limit l count => (limitItem l).1 :: bigEndian 1 count
  | .left n => bigEndian 1 n
  | .holds link key => [switch link, switch key]
  | .ring n => bigEndian 2 n
  | .cells cs => cs.flatMap fun c =>
      bigEndian 2 c.code.toNat ++ bigEndian 1 c.fg ++ bigEndian 1 c.bg ++
        [flagBits [c.flags.und, c.flags.blk, c.flags.dim]] ++ bigEndian 1 (c.ref.getD 0xFF) ++ [switch c.stale]
  | .slot r fields position => slotBody r fields position
  | .status b => statusItems b
  | .ident claimed loaded => [0x5A] ++ bigEndian 2 710 ++ [1] ++ bigEndian 1 claimed ++ bigEndian 1 loaded ++ [3]
  | .mask m => [flagBits [m.alert, m.frame, m.line]]
  | .lines ls => ls.flatMap fun l =>
      [choice functions l.1, choice [.low, .high] l.2.1] ++ bigEndian 2 l.2.2
  | .generation n => bigEndian 1 n

/-- The payload of a reply (R176) or a notice (R185). -/
def Sys2Proof.Claims.payloadOf : OutEntry → List Byte
  | .reply kind tag st f body =>
    [kind, tag, choice statuses st, flagBits [f.overrun, f.nlost, f.overload, f.hold, f.alerts]] ++ bodyBytes body
  | .alert event symbol a left =>
    [0xC0, choice [.fired, .keyack] event] ++ bigEndian 1 a.slot ++ (bigEndian 1 symbol.length ++ symbol) ++
      [choice [.high, .low] a.side] ++ value40 a.level ++ value40 a.value ++ bigEndian 4 a.frame.toNat ++ bigEndian 1 left
  | .frame number slots entries left dirty overload held =>
    [0xC1] ++ bigEndian 4 number.toNat ++ bigEndian 1 slots ++ bigEndian 1 entries ++ bigEndian 2 left ++
      bigEndian 2 dirty ++ [switch overload, switch held]
  | .line n =>
    [0xC2] ++ bigEndian 1 n.line ++ [choice functions n.func, choice [.low, .high] n.level] ++ bigEndian 1 n.edges ++
      bigEndian 2 n.count

/-- TRANSMIT_START begins the frame of the head entry only with HRDY high and no frame being sent; TRANSMIT_END removes
the entry whose frame was sent (R180). The commands also tell the level of HRDY, and without a frame to send or being
sent nothing else changes (the model's choice, log 3, log 12). The payload of a reply is its kind, its request's
tag, the status code, the flags byte and the body, and that of a notice its kind and body, field by field as R184 and
R185 lay them out (R176, R177). -/
def Obligations.TransmissionSendsHead : Prop :=
  (∀ e : OutEntry, e.payload = payloadOf e) ∧
  ∀ s : State,
    (∀ e rest, s.fli.sending = none → s.fli.outQ = e :: rest →
      exec (.transmitStart .high) s = .next { s with
        fli := { s.fli with hrdy := .high, sending := some (frameBytes e.payload) } }) ∧
    (∀ l, l = .low ∨ s.fli.sending ≠ none ∨ s.fli.outQ = [] →
      exec (.transmitStart l) s = .next { s with fli := { s.fli with hrdy := l } }) ∧
    (s.fli.sending ≠ none →
      exec .transmitEnd s = .next { s with fli := { s.fli with outQ := s.fli.outQ.tail, sending := none } }) ∧
    (s.fli.sending = none → exec .transmitEnd s = .next s)

/-! ## Local lines -/

/-- The link after an edge on line `l`, now `x` (R179, R188): the waiting LINE notice of the line takes the edge, whatever
the mask; else a new notice is offered if LINE notices are enabled. The head entry does not wait while its frame is
being sent. -/
def Sys2Proof.Claims.edgeReported (f : Fli) (l : Nat) (x : Line) (g : Fli) : Prop :=
  let k := if f.sending = none then 0 else 1
  if (f.outQ.drop k).any (OutEntry.isLine l) = true then
    g = { f with
      outQ := f.outQ.take k ++ (f.outQ.drop k).map fun e =>
        match e with
        | .line n => if n.line = l then .line ⟨l, x.func, x.level, min (n.edges + 1) 255, x.edges⟩ else e
        | e => e }
  else g = if f.mask.line then offered f (.line ⟨l, x.func, x.level, 1, x.edges⟩) else f

/-- A change of a pin: on an input line the debounce timer runs exactly while the pin differs from the debounced level
(R187); an output line only keeps the level put on its pin (the model's choice, log 18). A debounced edge: the line takes
its pin's level, its edge count rises, and the edge is reported; a line of function HOLD gives no more than that (R187,
R188), nor does an ACK line at a rising edge or with the alert queue empty (R116). A timer that does not run does not
expire (the model's choice, log 3). -/
def Obligations.DebounceFindsEdges : Prop :=
  (∀ (s : State) (l : Fin 4) (v : Level),
    ∃ t, exec (.linePinChange l v) s = .next t ∧ t = { s with lnu := t.lnu } ∧
      ∀ m, t.line m =
        if m = l.val then
          { s.line m with
            pin := v
            timer := if (s.line m).func.isInput then decide (v ≠ (s.line m).level) else (s.line m).timer }
        else s.line m) ∧
  (∀ (s : State) (l : Fin 4),
    let x := s.line l.val
    let y : Line := { x with level := x.pin, edges := min (x.edges + 1) 65535, timer := false }
    (¬ (x.timer = true ∧ x.pin ≠ x.level) → exec (.debounceExpiry l) s = .next s) ∧
    (x.timer = true → x.pin ≠ x.level → ¬ (x.func = .ack ∧ x.pin = .low ∧ s.fau.alerts ≠ []) →
      ∃ t, exec (.debounceExpiry l) s = .next t ∧ t = { s with fli := t.fli, lnu := t.lnu } ∧
        (∀ m, t.line m = if m = l.val then y else s.line m) ∧ edgeReported s.fli l.val y t.fli))

/-- A falling edge on an ACK line acknowledges the record at the head of the alert queue as an ACK request would: the
record goes, its limit is DISARMED, and where the slot's other limit is not FIRED the ALERT entry ends, leaving the age
order and the references of its cells (R106, R115, R116). It offers
a KEYACK notice if ALERT notices are enabled (R116); the KEYACK notice and the LINE notice of the edge may be offered in
either order (R187). -/
def Obligations.AckKeyAcknowledgesHead : Prop :=
  ∀ (s : State) (l : Fin 4) (a : AlertRec) (rest : List AlertRec),
    let x := s.line l.val
    let y : Line := { x with level := x.pin, edges := min (x.edges + 1) 65535, timer := false }
    x.timer = true → x.pin = .low → x.level = .high → x.func = .ack → s.fau.alerts = a :: rest →
    s.canonical → s.alertLaw → s.flashLaw →
    ∃ t, exec (.debounceExpiry l) s = .next t ∧
      t = { s with
        choices := t.choices
        fli := t.fli
        cst := { s.cst with cells := t.cst.cells }
        itb := { s.itb with slots := t.itb.slots }
        fau := { t.fau with alerts := rest }
        lnu := t.lnu } ∧
      (∀ m, t.line m = if m = l.val then y else s.line m) ∧
      (∀ m, t.slot m = if m = a.slot then withLimit (s.slot m) a.side .disarmed else s.slot m) ∧
      (let ends := fun e : FlashEntry =>
        decide (e.slot = a.slot) && decide (e.kind = .alert) && !((s.slot a.slot).limit a.side.other).isFired
      (∀ i, t.flashEntry i = (s.flashEntry i).filter fun e => !ends e) ∧
      t.fau.order = s.fau.order.filter fun i => !((s.flashEntry i).any ends)) ∧
      (∀ k, keepsOrLosesReference s t k) ∧
      let key := fun f : Fli =>
        if f.mask.alert then offered f (.alert .keyack (s.slot a.slot).symbol a rest.length) else f
      (edgeReported (key s.fli) l.val y t.fli ∨ ∃ g, edgeReported s.fli l.val y g ∧ t.fli = key g)

/-! ## The colour path and the formatter -/

/-- The ratio of a moving flash is 31 × remaining / F rounded up, and lies between 1 and 31; each blended channel is
bg × (32 − r) + c × r over 32, rounded to the nearest integer, and lies between the lower and the higher of the background
and the flash colour (R152). -/
def Obligations.BlendStaysBetween : Prop :=
  ∀ len rem : Nat, 1 ≤ rem → rem ≤ len → len ≤ 60 →
    let r := flashRatio len rem
    1 ≤ r ∧ r ≤ 31 ∧ 31 * rem ≤ r * len ∧ r * len < 31 * rem + len ∧
    ∀ bg c : Nat,
      min bg c ≤ blend r bg c ∧ blend r bg c ≤ max bg c ∧
      32 * blend r bg c ≤ bg * (32 - r) + c * r + 16 ∧ bg * (32 - r) + c * r < 32 * blend r bg c + 16

/-- One channel of the pixel of a cell record at row `y`, column `x`, by the eight steps of R151 to R156; `entry` gives the
channel of a palette entry. -/
def Sys2Proof.Claims.channelOf (s : State) (entry : Nat → Nat) (k : Cell) (y x : Nat) : Nat :=
  let blink := s.dtg.counter.toNat % 64 < 32
  let flashed :=
    match k.ref.bind s.flashEntry with
    | none => entry k.bg
    | some e =>
      match e.kind with
      | .alert => if blink then entry e.colour else entry k.bg
      | .moving _ len rem _ =>
        let r := (31 * rem + len - 1) / len
        (entry k.bg * (32 - r) + entry e.colour * r + 16) / 32
  let dimmed := fun v => if k.stale then v - s.gcu.dim else v
  let bg := dimmed flashed
  let fg :=
    if k.flags.blk ∧ ¬ blink then bg else if k.flags.dim then dimmed (entry k.fg) / 2 else dimmed (entry k.fg)
  let v :=
    if s.glyphPixel s.dtg.activeFormat (s.glyphOf k.code) y x ∨ (k.flags.und ∧ y + 1 = s.dtg.activeFormat.cellH) then fg
    else bg
  if s.dtg.activeColour = .full then v else if 128 ≤ v then 255 else 0

/-- Each channel of a cell's pixel is the one that the steps of R151 to R156 give, the stale dim after the flash (R154; at D
255 R150 says otherwise: the model's choice, log 31), its glyph the one that ScreenStyleFontAreaWrite gives. A screen cell's pixel is that of its page
cell, of its banner character in entry 15 on the back colour, or of its crawl character, the blank colour before and
after the text; else the back colour (R131, R132, R137). No pixel has a channel outside 0 to 255, and under REDUCED colour
every channel is 0 or 255 (R156). While active lines are sent, each line of the frame after its blank lines carries the
pixels of one line of the picture, left to right (R162); HS marks every line while awake, VS the first, and PCLK has the
rate of the active format (R159, R170); asleep PD is 0 with DE low (R166). That VS marks the first line of a wake period
too is the model's reading (log 17). -/
def Obligations.PixelChannelsInRange : Prop :=
  (∀ (s : State) (k : Cell) (y x : Nat),
    s.cellPixel k y x =
      ⟨channelOf s (fun i => (s.colour i).r.toNat) k y x, channelOf s (fun i => (s.colour i).g.toNat) k y x,
        channelOf s (fun i => (s.colour i).b.toNat) k y x⟩) ∧
  (∀ (s : State) (r c y x : Nat),
    -- a palette colour alone: fg and bg the same
    let flat := fun i : Nat => s.cellPixel ⟨0, i, i, ⟨false, false, false⟩, none, false⟩ y x
    let plain := fun (code : Code) (fg bg : Nat) => s.cellPixel ⟨code, fg, bg, ⟨false, false, false⟩, none, false⟩ y
    (s.shown r c = .back → s.cellAt r c y x = flat s.gcu.back) ∧
    (∀ k, s.shown r c = .cell k → s.cellAt r c y x = s.cellPixel (s.cell k) y x) ∧
    (∀ b, s.shown r c = .banner b → s.cellAt r c y x = plain (BitVec.ofNat 16 b.toNat) 15 s.gcu.back x) ∧
    ∀ left, s.shown r c = .crawl left →
      let i := (left + x + s.sco.offset) / s.dtg.activeFormat.cellW
      (i < s.sco.lead ∨ s.sco.lead + s.sco.ring.length ≤ i → s.cellAt r c y x = flat s.sco.blank) ∧
      ∀ ch, s.sco.lead ≤ i → s.sco.ring[i - s.sco.lead]? = some ch →
        s.cellAt r c y x = plain ch.code ch.fg ch.bg ((left + x + s.sco.offset) % s.dtg.activeFormat.cellW)) ∧
  (∀ (s : State) (r c y x : Nat), s.flashLaw →
    let p := s.cellAt r c y x
    p.r ≤ 255 ∧ p.g ≤ 255 ∧ p.b ≤ 255 ∧
    (s.dtg.activeColour = .reduced → ∀ v ∈ [p.r, p.g, p.b], v = 0 ∨ v = 255)) ∧
  (∀ (s : State) (l : Nat),
    let f := s.dtg.activeFormat
    let active := s.dtg.power = .awake ∧ s.dtg.phase = .scan ∧ f.blankLines ≤ l ∧ l < f.lines
    (active → (s.panelLine l).pixels.length = f.pixelW ∧
      ∀ x < f.pixelW,
        let p := s.cellAt ((l - f.blankLines) / f.cellH) (x / f.cellW) ((l - f.blankLines) % f.cellH) (x % f.cellW)
        (s.panelLine l).pixels[x]? = some p ∧ s.panel l x = (true, p)) ∧
    (¬ active → (s.panelLine l).pixels = [] ∧ ∀ x, (s.panel l x).1 = false) ∧
    (s.dtg.power = .asleep → ∀ x, s.panel l x = (false, ⟨0, 0, 0⟩)) ∧
    ((s.panelLine l).hs = true ↔ s.dtg.power = .awake ∧ l < f.lines) ∧
    ((s.panelLine l).vs = true ↔ s.dtg.power = .awake ∧ l = 0) ∧ s.pclk = f.pixelClock) ∧
  ∀ (f : Format) (reads : Nat → State), (∀ l, (reads l).dtg.power = .awake ∧ (reads l).dtg.activeFormat = f) →
    (frameLines f reads).length = f.lines ∧
    (frameLines f reads).countP (·.hs) = f.lines ∧ (frameLines f reads).countP (·.vs) = 1 ∧
    ∀ l < f.lines, (frameLines f reads)[l]? = some ((reads l).panelLine l)

/-- The code of a character (R79). -/
def Sys2Proof.Claims.codeOf (c : Char) : Code := BitVec.ofNat 16 c.toNat

/-- A number in decimal digits. -/
def Sys2Proof.Claims.decimal (n : Nat) : List Code := (Nat.toDigits 10 n).map codeOf

/-- A number in decimal digits, with leading zeros to `w` of them. -/
def Sys2Proof.Claims.zeroPadded (w n : Nat) : List Code :=
  List.replicate (w - (decimal n).length) (codeOf '0') ++ decimal n

/-- A number with ',' between the groups of three digits counted from the right; `fuel` bounds the groups. -/
def Sys2Proof.Claims.groupedWith : Nat → Nat → List Code
  | 0, n => decimal n
  | fuel + 1, n =>
    if n < 1000 then decimal n else groupedWith fuel (n / 1000) ++ codeOf ',' :: zeroPadded 3 (n % 1000)

/-- A number with ',' between the groups of three digits counted from the right. -/
def Sys2Proof.Claims.grouped (n : Nat) : List Code := groupedWith n n

/-- The sign of a shown figure: '-' below zero, and for a change '+' above it (R82, R87). -/
def Sys2Proof.Claims.signOf (change : Bool) (q : Int) : List Code :=
  if q < 0 then [codeOf '-'] else if change = true ∧ 0 < q then [codeOf '+'] else []

/-- The text of the shown integer `q` with `e` decimals (R82). -/
def Sys2Proof.Claims.pointText (change sep : Bool) (e : Nat) (q : Int) : List Code :=
  signOf change q ++ (if sep then grouped else decimal) (q.natAbs / 10 ^ e) ++
    if e = 0 then [] else codeOf '.' :: zeroPadded e (q.natAbs % 10 ^ e)

/-- The texts of a price, or of a change, in the order they are tried: DEC with its separators, then without, from
min(d, MAXDEC) decimals down to none, each rounded from the exact value (R82, R83); FRAC in lowest terms (R84); H32
(R85). -/
def Sys2Proof.Claims.priceTexts (change : Bool) (sc : Scale) (c : Column) (v : Int) : List (List Code) :=
  match sc with
  | .dec d =>
    let e := min d c.maxdec
    let shown := fun sep k => pointText change sep k (roundHalf v (10 ^ (d - k)))
    (if c.sep then [shown true e] else []) ++ (List.range (e + 1)).map fun j => shown false (e - j)
  | .frac k =>
    let whole := v.natAbs / 2 ^ k
    let n := v.natAbs % 2 ^ k
    let g := Nat.gcd n (2 ^ k)
    let fraction := decimal (n / g) ++ codeOf '/' :: decimal (2 ^ k / g)
    [signOf change v ++
      if n = 0 then decimal whole
      else (if whole = 0 then [] else decimal whole ++ [codeOf ' ']) ++ fraction]
  | .h32 =>
    let t := v.natAbs % 64
    [signOf change v ++ decimal (v.natAbs / 64) ++ codeOf '-' :: zeroPadded 2 (t / 2) ++
      if t % 2 = 1 then [codeOf '+'] else []]

/-- The texts of a percentage change, in the order they are tried (R89, R90). -/
def Sys2Proof.Claims.percentTexts (last ref : Int) : List (List Code) :=
  if ref ≤ 0 then [[codeOf '-', codeOf '-']]
  else
    let shown := fun e => pointText true false e (roundHalf ((last - ref) * (100 * 10 ^ e : Nat)) ref.toNat)
    [shown 2 ++ [codeOf '%'], shown 2, shown 1, shown 0]

/-- The texts of a size, in the order they are tried (R91, R92). -/
def Sys2Proof.Claims.sizesOf (c : Column) (n : Nat) : List (List Code) :=
  (if c.sep then [grouped n] else []) ++ [decimal n] ++
    if c.compress then
      [decimal ((n + 500) / 10 ^ 3) ++ [codeOf 'K'], decimal ((n + 500000) / 10 ^ 6) ++ [codeOf 'M'],
        decimal ((n + 5 * 10 ^ 8) / 10 ^ 9) ++ [codeOf 'B']]
    else []

/-- The text of a TIME by the column's width; none below 5 (R93). -/
def Sys2Proof.Claims.timesOf (w n : Nat) : List (List Code) :=
  let hm := zeroPadded 2 (n / 10000) ++ codeOf ':' :: zeroPadded 2 (n / 100 % 100)
  if 8 ≤ w then [hm ++ codeOf ':' :: zeroPadded 2 (n % 100)] else if 5 ≤ w then [hm] else []

/-- The first of the texts that fits the column, at its left or its right among spaces; with none, all cells hold the
fill character (R80). -/
def Sys2Proof.Claims.fitted (c : Column) (fill : Char) (texts : List (List Code)) : List Code :=
  match texts.find? fun t => decide (t.length ≤ c.width) with
  | some t =>
    let gap := List.replicate (c.width - t.length) (codeOf ' ')
    if c.align = .left then t ++ gap else gap ++ t
  | none => List.replicate c.width (codeOf fill)

/-- The codes of a column by its source (R80 to R95). -/
def Sys2Proof.Claims.codesOf (r : Slot) (c : Column) : List Code :=
  let spaces := List.replicate c.width (codeOf ' ')
  match c.source with
  | .field f =>
    match r.value f with
    | none => spaces
    | some v =>
      if f = .time then fitted c '#' (timesOf c.width v.natAbs)
      else if f = .bsize ∨ f = .asize ∨ f = .volume then fitted c '*' (sizesOf c v.natAbs)
      else r.scale.elim spaces fun sc => fitted c '#' (priceTexts false sc c v)
  | .chg =>
    match r.value .last, r.value .ref, r.scale with
    | some last, some ref, some sc => fitted c '#' (priceTexts true sc c (last - ref))
    | _, _, _ => spaces
  | .pct =>
    match r.value .last, r.value .ref with
    | some last, some ref => fitted c '#' (percentTexts last ref)
    | _, _ => spaces
  | .symbol => fitted c '#' [(r.symbol.map fun b => BitVec.ofNat 16 b.toNat).take c.width]
  | .arrow =>
    List.replicate c.width
      (match (r.move .last).dir with
        | .up => 0x0018
        | .down => 0x0019
        | .none => 0x0020)

/-- The foreground of a column by the table of R96. -/
def Sys2Proof.Claims.fgOf (st : Style) (r : Slot) (src : Source) : Nat :=
  let byDir := fun d : Direction => if d = .up then st.up else if d = .down then st.down else st.fg
  if st.dirtext = false then st.fg
  else
    match src with
    | .field f => if f ∈ [Field.bid, .ask, .last] then byDir (r.move f).dir else st.fg
    | .arrow => byDir (r.move .last).dir
    | .symbol => st.fg
    | _ =>
      match r.value .last, r.value .ref with
      | some last, some ref => if ref < last then st.up else if last < ref then st.down else st.fg
      | _, _ => st.fg

/-- The formatter makes as many cells for a column as the column's width. Their codes are the text of the source: prices
and changes in the slot's scale, percentages, sizes, times, symbol or arrow, each in the first form that fits, placed by
the align, and '#' or, for a size, '*' in every cell where none fits; spaces for an ABSENT field (R80 to R95; rounding
is that of RoundsHalfAwayFromZero; of the width-6 row of 5.13 log 28). All carry the foreground of R96, the background and
flags of the column's class, and the stale mark of a STALE slot (R77, R96, R97, R99). The cells of a BID, ASK or LAST
column carry the index of the slot's flash entry for the field, or none where it has none, and those of every other
column none (R98). -/
def Obligations.ColumnFillsItsWidth : Prop :=
  (∀ (s : State) (n : Nat) (c : Column),
    (s.columnCells n c).length = c.width ∧
    (s.columnCells n c).map (·.code) = codesOf (s.slot n) c ∧
    ∀ x ∈ s.columnCells n c,
      x.bg = (s.style c.style).bg ∧ x.flags = (s.style c.style).flags ∧
      x.stale = decide ((s.slot n).state = .stale) ∧
      x.fg = fgOf (s.style c.style) (s.slot n) c.source ∧
      ((∀ f ∈ [Field.bid, .ask, .last], c.source ≠ .field f) → x.ref = none)) ∧
  ∀ (s : State) (n : Nat) (c : Column), Table.wf none s.fau.flash = true →
    ∀ f ∈ [Field.bid, .ask, .last], c.source = .field f → ∀ x ∈ s.columnCells n c,
      (∀ i, x.ref = some i → ∃ e, s.flashEntry i = some e ∧ e.slot = n ∧ e.field = f) ∧
      (x.ref = none → ∀ i e, s.flashEntry i = some e → ¬ (e.slot = n ∧ e.field = f))

/-- Rounding is to the nearest integer, and half away from zero: no integer is nearer to num / den, and where the
distance is one half the result is the one of larger magnitude (R81). -/
def Obligations.RoundsHalfAwayFromZero : Prop :=
  ∀ (num : Int) (den : Nat), 0 < den →
    2 * (roundHalf num den * den - num).natAbs ≤ den ∧
    (2 * (roundHalf num den * den - num).natAbs = den → num.natAbs < (roundHalf num den * den).natAbs)

/-! ## Laws that every step keeps -/

/-- Every table keeps its canonical form. -/
def Obligations.StepKeepsCanonicalForm : Prop :=
  ∀ s t : State, s.canonical → step s = .next t → t.canonical

/-- The bounds of the link's queues, the reserved reply place of a SAVE in flight, the one waiting LINE notice per line,
and the frame being sent (R174, R175, R178, R179, R180, R190); and what the receiver keeps in each state (R172), the gap
timer running in every one but HUNT (the model's reading, log 26). -/
def Obligations.StepKeepsLinkLaws : Prop :=
  ∀ s t : State, s.linkLaw → s.fli.receiverLaw → step s = .next t → t.linkLaw ∧ t.fli.receiverLaw

/-- The laws of the slots, the pending pool, the dirty list, OVERLOAD and the commit (R16, R18, R20, R37 to R39, R53,
R58, R61). -/
def Obligations.StepKeepsQueueLaws : Prop :=
  ∀ s t : State, s.slotLaw → s.queueLaw → s.commitLaw → step s = .next t → t.slotLaw ∧ t.queueLaw ∧ t.commitLaw

/-- The laws of pages, layouts, placements and panes (R3, R26, R30, R121, R122). -/
def Obligations.StepKeepsPageLaws : Prop :=
  ∀ s t : State, s.canonical → s.pageLaw → s.layoutLaw → s.placementLaw → s.compositionLaw → step s = .next t →
    t.pageLaw ∧ t.layoutLaw ∧ t.placementLaw ∧ t.compositionLaw

/-- The laws of the crawl (R133); text noted as entered stands in the ring with the lead at 0 (the model's, log 29). -/
def Obligations.StepKeepsCrawlLaw : Prop :=
  ∀ s t : State, s.crawlLaw → step s = .next t → t.crawlLaw

/-- The laws of limits, alerts, flash entries with their spans, and flash references (R1, R100 to R102, R110, R114). -/
def Obligations.StepKeepsFlashLaws : Prop :=
  ∀ s t : State, s.canonical → s.slotLaw → s.queueLaw → s.pageLaw → s.layoutLaw → s.placementLaw →
    s.alertLaw → s.flashLaw → s.referenceLaw → s.rangeLaw → step s = .next t →
    t.alertLaw ∧ t.flashLaw ∧ t.referenceLaw

/-- Every cell, colour and setting stays in its range (R1, R100, R120, R141, R145, R189). -/
def Obligations.StepKeepsRanges : Prop :=
  ∀ s t : State, (∀ i ∈ s.pending, i.wf = true) → s.canonical → s.slotLaw → s.pageLaw → s.layoutLaw → s.placementLaw →
    s.flashLaw → s.rangeLaw → step s = .next t → t.rangeLaw
end

