-- ==== Sys2Proof/Laws/Table.lean ====
section
/-!
SUPPORT. The laws of the tables: what a write leaves at every number, and that every operation keeps the canonical
form.
-/

namespace Sys2Proof

variable {β : Type}

@[simp] theorem Table.get_nil (d : β) (k : Nat) : Table.get d [] k = d := rfl

theorem Table.get_cons (d : β) (i : Nat) (v : β) (t : Table β) (k : Nat) :
    Table.get d ((i, v) :: t) k = if i = k then v else Table.get d t k := rfl

/-- A table whose numbers all differ from `k` reads as the default there. -/
theorem Table.get_of_ne (d : β) (t : Table β) (k : Nat) (h : ∀ e ∈ t, e.1 ≠ k) : Table.get d t k = d := by
  induction t with
  | nil => rfl
  | cons e t ih =>
    rw [Table.get_cons, if_neg (h e (by simp)), ih fun x hx => h x (by simp [hx])]

/-- What a table holds after another: the first one's entry where it lists the number. -/
theorem Table.get_append_of_ne (d : β) (t u : Table β) (k : Nat) (h : ∀ e ∈ t, e.1 ≠ k) :
    Table.get d (t ++ u) k = Table.get d u k := by
  induction t with
  | nil => rfl
  | cons e t ih =>
    rw [List.cons_append, Table.get_cons, if_neg (h e (by simp)), ih fun x hx => h x (by simp [hx])]

theorem Table.get_append_left (d : β) (t u : Table β) (k : Nat) (h : ∀ e ∈ u, e.1 ≠ k) :
    Table.get d (t ++ u) k = Table.get d t k := by
  induction t with
  | nil => exact Table.get_of_ne d u k h
  | cons e t ih => rw [List.cons_append, Table.get_cons, Table.get_cons, ih]

/-- A filter by number keeps what the numbers it keeps hold. -/
theorem Table.get_filter (d : β) (p : Nat → Bool) (t : Table β) (k : Nat) :
    Table.get d (t.filter fun e => p e.1) k = if p k then Table.get d t k else d := by
  induction t with
  | nil => simp
  | cons e t ih =>
    obtain ⟨i, v⟩ := e
    by_cases hp : p i
    · rw [List.filter_cons_of_pos (by simpa using hp), Table.get_cons, Table.get_cons, ih]
      by_cases hk : i = k
      · subst hk; simp [hp]
      · simp [hk]
    · rw [List.filter_cons_of_neg (by simpa using hp), ih, Table.get_cons]
      by_cases hk : i = k
      · subst hk; simp [hp]
      · simp [hk]

theorem Table.mem_numbered [DecidableEq β] (d : β) (a : Nat) (vs : List β) :
    ∀ e ∈ Table.numbered d a vs, a ≤ e.1 ∧ e.1 < a + vs.length ∧ e.2 ≠ d := by
  induction vs generalizing a with
  | nil => simp [Table.numbered]
  | cons v vs ih =>
    intro e he
    rw [Table.numbered] at he
    rw [List.length_cons]
    split at he
    · obtain ⟨h1, h2, h3⟩ := ih (a + 1) e he
      exact ⟨by omega, by omega, h3⟩
    · next hv =>
      rcases List.mem_cons.mp he with rfl | he
      · exact ⟨le_rfl, by simp, hv⟩
      · obtain ⟨h1, h2, h3⟩ := ih (a + 1) e he
        exact ⟨by omega, by omega, h3⟩

theorem Table.get_numbered [DecidableEq β] (d : β) (a : Nat) (vs : List β) (k : Nat) :
    Table.get d (Table.numbered d a vs) k = if a ≤ k then vs.getD (k - a) d else d := by
  induction vs generalizing a with
  | nil => simp [Table.numbered]
  | cons v vs ih =>
    have hc : Table.get d (Table.numbered d a (v :: vs)) k =
        if a = k then v else Table.get d (Table.numbered d (a + 1) vs) k := by
      rw [Table.numbered]
      split
      · next hv =>
        split
        · next hk => rw [hv, Table.get_of_ne]; intro e he; have := Table.mem_numbered d _ vs e he; omega
        · rfl
      · rw [Table.get_cons]
    rw [hc, ih]
    by_cases hk : a = k
    · subst hk; simp
    · by_cases hle : a ≤ k
      · have h1 : a + 1 ≤ k := by omega
        have h2 : k - a = (k - (a + 1)) + 1 := by omega
        simp [hk, hle, h1, h2]
      · have h1 : ¬ a + 1 ≤ k := by omega
        simp [hk, hle, h1]

/-- A run written: the numbers of the run hold the records written, every other number what it held. -/
theorem Table.get_writeRun [DecidableEq β] (d : β) (t : Table β) (a : Nat) (vs : List β) (k : Nat) :
    Table.get d (Table.writeRun d t a vs) k =
      if a ≤ k ∧ k < a + vs.length then vs.getD (k - a) d else Table.get d t k := by
  unfold Table.writeRun
  by_cases h1 : k < a
  · rw [Table.get_append_left, Table.get_filter d (fun i => decide (i < a))]
    · have : ¬ a ≤ k := by omega
      simp [h1, this]
    · intro e he
      rcases List.mem_append.mp he with h | h
      · have := Table.mem_numbered d a vs e h; omega
      · have := List.mem_filter.mp h; simp at this; omega
  · rw [Table.get_append_of_ne]
    · by_cases h2 : k < a + vs.length
      · rw [Table.get_append_left, Table.get_numbered]
        · have : a ≤ k := by omega
          simp [this, h2]
        · intro e he; have := List.mem_filter.mp he; simp at this; omega
      · rw [Table.get_append_of_ne, Table.get_filter d (fun i => decide (a + vs.length ≤ i))]
        · have : a + vs.length ≤ k := by omega
          simp [this, h2]
        · intro e he; have := Table.mem_numbered d a vs e he; omega
    · intro e he; have := List.mem_filter.mp he; simp at this; omega

/-- A record set: the number holds the record, every other number what it held. -/
@[simp] theorem Table.get_set [DecidableEq β] (d : β) (t : Table β) (i : Nat) (v : β) (k : Nat) :
    Table.get d (Table.set d t i v) k = if k = i then v else Table.get d t k := by
  rw [Table.set, Table.get_writeRun]
  by_cases h : k = i
  · subst h; simp
  · rw [if_neg (by simp only [List.length_singleton]; omega), if_neg h]

theorem Table.get_set_self [DecidableEq β] (d : β) (t : Table β) (i : Nat) (v : β) :
    Table.get d (Table.set d t i v) i = v := by simp

/-- A run cleared: its numbers hold the default, every other number what it held. -/
@[simp] theorem Table.get_clearRun (d : β) (t : Table β) (a n k : Nat) :
    Table.get d (Table.clearRun t a n) k = if a ≤ k ∧ k < a + n then d else Table.get d t k := by
  rw [Table.clearRun, Table.get_filter d (fun i => decide (i < a) || decide (a + n ≤ i))]
  by_cases h : a ≤ k ∧ k < a + n
  · have h1 : ¬ k < a := by omega
    have h2 : ¬ a + n ≤ k := by omega
    simp [h, h1, h2]
  · have : k < a ∨ a + n ≤ k := by omega
    simp only [h, if_false]
    rcases this with h | h <;> simp [h]

/-! ## The canonical form -/

/-- The canonical form in words: the keys strictly rise and no entry is the default. -/
theorem Table.wf_iff [DecidableEq β] (d : β) (t : Table β) :
    Table.wf d t = true ↔ t.Pairwise (fun a b => a.1 < b.1) ∧ ∀ e ∈ t, e.2 ≠ d := by
  induction t with
  | nil => simp [Table.wf]
  | cons e t ih =>
    cases t with
    | nil => simp [Table.wf]
    | cons f t =>
      simp only [Table.wf, Bool.and_eq_true, decide_eq_true_eq, ih]
      constructor
      · rintro ⟨⟨hv, hlt⟩, hp, hd⟩
        refine ⟨List.pairwise_cons.mpr ⟨fun b hb => ?_, hp⟩, fun x hx => ?_⟩
        · rcases List.mem_cons.mp hb with rfl | hb
          · exact hlt
          · exact lt_trans hlt ((List.pairwise_cons.mp hp).1 b hb)
        · rcases List.mem_cons.mp hx with rfl | hx
          · simpa using hv
          · exact hd x hx
      · rintro ⟨hp, hd⟩
        obtain ⟨h1, h2⟩ := List.pairwise_cons.mp hp
        exact ⟨⟨by simpa using hd e (by simp), h1 f (by simp)⟩, h2, fun x hx => hd x (by simp [hx])⟩

theorem Table.wf_nil [DecidableEq β] (d : β) : Table.wf d ([] : Table β) = true := rfl

/-- In canonical form an entry is what its number reads as. -/
theorem Table.get_of_mem [DecidableEq β] {d : β} {t : Table β} (h : Table.wf d t = true) {e : Nat × β} (he : e ∈ t) :
    Table.get d t e.1 = e.2 := by
  obtain ⟨hp, -⟩ := (Table.wf_iff d t).mp h
  clear h
  induction t with
  | nil => simp at he
  | cons f t ih =>
    rw [Table.get_cons]
    obtain ⟨h1, h2⟩ := List.pairwise_cons.mp hp
    rcases List.mem_cons.mp he with rfl | he
    · simp
    · have := h1 e he
      rw [if_neg (by omega), ih he h2]

/-- A number that does not read as the default is listed. -/
theorem Table.mem_of_get_ne (d : β) (t : Table β) (k : Nat) (h : Table.get d t k ≠ d) : (k, Table.get d t k) ∈ t := by
  induction t with
  | nil => simp at h
  | cons e t ih =>
    obtain ⟨i, v⟩ := e
    rw [Table.get_cons] at h ⊢
    by_cases hk : i = k
    · subst hk; simp
    · rw [if_neg hk] at h ⊢
      exact List.mem_cons_of_mem _ (ih h)

theorem Table.mem_iff [DecidableEq β] {d : β} {t : Table β} (h : Table.wf d t = true) (k : Nat) (v : β) :
    (k, v) ∈ t ↔ Table.get d t k = v ∧ v ≠ d := by
  constructor
  · intro he; exact ⟨Table.get_of_mem h he, ((Table.wf_iff d t).mp h).2 _ he⟩
  · rintro ⟨rfl, hv⟩; exact Table.mem_of_get_ne d t k hv

/-- Tables in canonical form that read alike are equal. -/
theorem Table.eq_of_get [DecidableEq β] {d : β} {t u : Table β} (ht : Table.wf d t = true) (hu : Table.wf d u = true)
    (h : ∀ k, Table.get d t k = Table.get d u k) : t = u := by
  have hmem : ∀ e, e ∈ t ↔ e ∈ u := by
    rintro ⟨k, v⟩; rw [Table.mem_iff ht, Table.mem_iff hu, h]
  refine List.Perm.eq_of_pairwise (le := fun a b => a.1 < b.1) (fun a b _ _ h1 h2 => absurd h1 (by omega))
    ((Table.wf_iff d t).mp ht).1 ((Table.wf_iff d u).mp hu).1 ?_
  refine (List.perm_ext_iff_of_nodup ?_ ?_).mpr hmem
  · exact ((Table.wf_iff d t).mp ht).1.imp fun hab hEq => by subst hEq; exact absurd hab (lt_irrefl _)
  · exact ((Table.wf_iff d u).mp hu).1.imp fun hab hEq => by subst hEq; exact absurd hab (lt_irrefl _)

theorem Table.pairwise_numbered [DecidableEq β] (d : β) (a : Nat) (vs : List β) :
    (Table.numbered d a vs).Pairwise fun x y => x.1 < y.1 := by
  induction vs generalizing a with
  | nil => simp [Table.numbered]
  | cons v vs ih =>
    rw [Table.numbered]
    split
    · exact ih (a + 1)
    · refine List.pairwise_cons.mpr ⟨fun e he => ?_, ih (a + 1)⟩
      have := Table.mem_numbered d (a + 1) vs e he; simp; omega

/-- Writing a run keeps the canonical form. -/
theorem Table.wf_writeRun [DecidableEq β] {d : β} {t : Table β} (h : Table.wf d t = true) (a : Nat) (vs : List β) :
    Table.wf d (Table.writeRun d t a vs) = true := by
  obtain ⟨hp, hd⟩ := (Table.wf_iff d t).mp h
  rw [Table.wf_iff]
  unfold Table.writeRun
  constructor
  · refine List.pairwise_append.mpr ⟨hp.filter _, List.pairwise_append.mpr
      ⟨Table.pairwise_numbered d a vs, hp.filter _, ?_⟩, ?_⟩
    · intro x hx y hy
      have h1 := Table.mem_numbered d a vs x hx
      have h2 := List.mem_filter.mp hy
      simp at h2; omega
    · intro x hx y hy
      have h1 := List.mem_filter.mp hx
      simp at h1
      rcases List.mem_append.mp hy with hy | hy
      · have := Table.mem_numbered d a vs y hy; omega
      · have := List.mem_filter.mp hy
        simp at this; omega
  · intro e he
    rcases List.mem_append.mp he with he | he
    · exact hd e (List.mem_filter.mp he).1
    · rcases List.mem_append.mp he with he | he
      · exact (Table.mem_numbered d a vs e he).2.2
      · exact hd e (List.mem_filter.mp he).1

/-- Setting a record keeps the canonical form. -/
theorem Table.wf_set [DecidableEq β] {d : β} {t : Table β} (h : Table.wf d t = true) (i : Nat) (v : β) :
    Table.wf d (Table.set d t i v) = true := Table.wf_writeRun h i [v]

/-- Clearing a run keeps the canonical form. -/
theorem Table.wf_clearRun [DecidableEq β] {d : β} {t : Table β} (h : Table.wf d t = true) (a n : Nat) :
    Table.wf d (Table.clearRun t a n) = true := by
  obtain ⟨hp, hd⟩ := (Table.wf_iff d t).mp h
  exact (Table.wf_iff d _).mpr ⟨hp.filter _, fun e he => hd e (List.mem_filter.mp he).1⟩

/-- Changing the listed records keeps the canonical form. -/
theorem Table.wf_adjust [DecidableEq β] {d : β} {t : Table β} (h : Table.wf d t = true) (f : Nat → β → β) :
    Table.wf d (Table.adjust d f t) = true := by
  obtain ⟨hp, -⟩ := (Table.wf_iff d t).mp h
  refine (Table.wf_iff d _).mpr ⟨?_, fun e he => by simpa using (List.mem_filter.mp he).2⟩
  exact List.Pairwise.filter _ (List.pairwise_map.mpr (hp.imp fun h => h))

/-- Changing the listed records by a function that keeps the default changes every record by it. -/
theorem Table.get_adjust [DecidableEq β] {d : β} {t : Table β} (h : Table.wf d t = true) (f : Nat → β → β)
    (hf : ∀ k, f k d = d) (k : Nat) : Table.get d (Table.adjust d f t) k = f k (Table.get d t k) := by
  obtain ⟨hp, -⟩ := (Table.wf_iff d t).mp h
  clear h
  induction t with
  | nil => simp [Table.adjust, hf]
  | cons e t ih =>
    obtain ⟨i, v⟩ := e
    obtain ⟨h1, h2⟩ := List.pairwise_cons.mp hp
    have ih := ih h2
    simp only [Table.adjust, List.map_cons] at ih ⊢
    by_cases hv : f i v = d
    · rw [List.filter_cons_of_neg (by simp [hv]), Table.get_cons]
      by_cases hk : i = k
      · subst hk
        rw [if_pos rfl, hv]
        apply Table.get_of_ne
        intro x hx
        obtain ⟨y, hy, rfl⟩ := List.mem_map.mp (List.mem_filter.mp hx).1
        have := h1 y hy; simp; omega
      · rw [if_neg hk, ih]
    · rw [List.filter_cons_of_pos (by simp [hv]), Table.get_cons, Table.get_cons]
      by_cases hk : i = k
      · subst hk; simp
      · rw [if_neg hk, if_neg hk, ih]

end Sys2Proof
end

