-- ==== Sys2Proof/Laws/State.lean ====
section
/-!
SUPPORT. What each update of the state leaves in each block, and what the reads give after the writes.
-/

namespace Sys2Proof.Machine

variable (s : State)

@[simp] theorem State.setCells_pending (t : Table Cell) : (s.setCells t).pending = s.pending := rfl
@[simp] theorem State.setCells_choices (t : Table Cell) : (s.setCells t).choices = s.choices := rfl
@[simp] theorem State.setCells_fli (t : Table Cell) : (s.setCells t).fli = s.fli := rfl
@[simp] theorem State.setCells_cst (t : Table Cell) : (s.setCells t).cst = { s.cst with cells := t } := rfl
@[simp] theorem State.setCells_itb (t : Table Cell) : (s.setCells t).itb = s.itb := rfl
@[simp] theorem State.setCells_upq (t : Table Cell) : (s.setCells t).upq = s.upq := rfl
@[simp] theorem State.setCells_cme (t : Table Cell) : (s.setCells t).cme = s.cme := rfl
@[simp] theorem State.setCells_fau (t : Table Cell) : (s.setCells t).fau = s.fau := rfl
@[simp] theorem State.setCells_sco (t : Table Cell) : (s.setCells t).sco = s.sco := rfl
@[simp] theorem State.setCells_gcu (t : Table Cell) : (s.setCells t).gcu = s.gcu := rfl
@[simp] theorem State.setCells_dtg (t : Table Cell) : (s.setCells t).dtg = s.dtg := rfl
@[simp] theorem State.setCells_lnu (t : Table Cell) : (s.setCells t).lnu = s.lnu := rfl
@[simp] theorem State.setCells_pst (t : Table Cell) : (s.setCells t).pst = s.pst := rfl

@[simp] theorem State.setPages_pending (t : Table (Option Page)) : (s.setPages t).pending = s.pending := rfl
@[simp] theorem State.setPages_choices (t : Table (Option Page)) : (s.setPages t).choices = s.choices := rfl
@[simp] theorem State.setPages_fli (t : Table (Option Page)) : (s.setPages t).fli = s.fli := rfl
@[simp] theorem State.setPages_cst (t : Table (Option Page)) : (s.setPages t).cst = { s.cst with pages := t } := rfl
@[simp] theorem State.setPages_itb (t : Table (Option Page)) : (s.setPages t).itb = s.itb := rfl
@[simp] theorem State.setPages_upq (t : Table (Option Page)) : (s.setPages t).upq = s.upq := rfl
@[simp] theorem State.setPages_cme (t : Table (Option Page)) : (s.setPages t).cme = s.cme := rfl
@[simp] theorem State.setPages_fau (t : Table (Option Page)) : (s.setPages t).fau = s.fau := rfl
@[simp] theorem State.setPages_sco (t : Table (Option Page)) : (s.setPages t).sco = s.sco := rfl
@[simp] theorem State.setPages_gcu (t : Table (Option Page)) : (s.setPages t).gcu = s.gcu := rfl
@[simp] theorem State.setPages_dtg (t : Table (Option Page)) : (s.setPages t).dtg = s.dtg := rfl
@[simp] theorem State.setPages_lnu (t : Table (Option Page)) : (s.setPages t).lnu = s.lnu := rfl
@[simp] theorem State.setPages_pst (t : Table (Option Page)) : (s.setPages t).pst = s.pst := rfl

@[simp] theorem State.setSlots_pending (t : Table Slot) : (s.setSlots t).pending = s.pending := rfl
@[simp] theorem State.setSlots_choices (t : Table Slot) : (s.setSlots t).choices = s.choices := rfl
@[simp] theorem State.setSlots_fli (t : Table Slot) : (s.setSlots t).fli = s.fli := rfl
@[simp] theorem State.setSlots_cst (t : Table Slot) : (s.setSlots t).cst = s.cst := rfl
@[simp] theorem State.setSlots_itb (t : Table Slot) : (s.setSlots t).itb = { s.itb with slots := t } := rfl
@[simp] theorem State.setSlots_upq (t : Table Slot) : (s.setSlots t).upq = s.upq := rfl
@[simp] theorem State.setSlots_cme (t : Table Slot) : (s.setSlots t).cme = s.cme := rfl
@[simp] theorem State.setSlots_fau (t : Table Slot) : (s.setSlots t).fau = s.fau := rfl
@[simp] theorem State.setSlots_sco (t : Table Slot) : (s.setSlots t).sco = s.sco := rfl
@[simp] theorem State.setSlots_gcu (t : Table Slot) : (s.setSlots t).gcu = s.gcu := rfl
@[simp] theorem State.setSlots_dtg (t : Table Slot) : (s.setSlots t).dtg = s.dtg := rfl
@[simp] theorem State.setSlots_lnu (t : Table Slot) : (s.setSlots t).lnu = s.lnu := rfl
@[simp] theorem State.setSlots_pst (t : Table Slot) : (s.setSlots t).pst = s.pst := rfl

@[simp] theorem State.setLayouts_pending (t : Table (Option (List Column))) :
    (s.setLayouts t).pending = s.pending := rfl
@[simp] theorem State.setLayouts_choices (t : Table (Option (List Column))) :
    (s.setLayouts t).choices = s.choices := rfl
@[simp] theorem State.setLayouts_fli (t : Table (Option (List Column))) : (s.setLayouts t).fli = s.fli := rfl
@[simp] theorem State.setLayouts_cst (t : Table (Option (List Column))) : (s.setLayouts t).cst = s.cst := rfl
@[simp] theorem State.setLayouts_itb (t : Table (Option (List Column))) :
    (s.setLayouts t).itb = { s.itb with layouts := t } := rfl
@[simp] theorem State.setLayouts_upq (t : Table (Option (List Column))) : (s.setLayouts t).upq = s.upq := rfl
@[simp] theorem State.setLayouts_cme (t : Table (Option (List Column))) : (s.setLayouts t).cme = s.cme := rfl
@[simp] theorem State.setLayouts_fau (t : Table (Option (List Column))) : (s.setLayouts t).fau = s.fau := rfl
@[simp] theorem State.setLayouts_sco (t : Table (Option (List Column))) : (s.setLayouts t).sco = s.sco := rfl
@[simp] theorem State.setLayouts_gcu (t : Table (Option (List Column))) : (s.setLayouts t).gcu = s.gcu := rfl
@[simp] theorem State.setLayouts_dtg (t : Table (Option (List Column))) : (s.setLayouts t).dtg = s.dtg := rfl
@[simp] theorem State.setLayouts_lnu (t : Table (Option (List Column))) : (s.setLayouts t).lnu = s.lnu := rfl
@[simp] theorem State.setLayouts_pst (t : Table (Option (List Column))) : (s.setLayouts t).pst = s.pst := rfl

@[simp] theorem State.setFli_pending (f : Fli) : (s.setFli f).pending = s.pending := rfl
@[simp] theorem State.setFli_choices (f : Fli) : (s.setFli f).choices = s.choices := rfl
@[simp] theorem State.setFli_fli (f : Fli) : (s.setFli f).fli = f := rfl
@[simp] theorem State.setFli_cst (f : Fli) : (s.setFli f).cst = s.cst := rfl
@[simp] theorem State.setFli_itb (f : Fli) : (s.setFli f).itb = s.itb := rfl
@[simp] theorem State.setFli_upq (f : Fli) : (s.setFli f).upq = s.upq := rfl
@[simp] theorem State.setFli_cme (f : Fli) : (s.setFli f).cme = s.cme := rfl
@[simp] theorem State.setFli_fau (f : Fli) : (s.setFli f).fau = s.fau := rfl
@[simp] theorem State.setFli_sco (f : Fli) : (s.setFli f).sco = s.sco := rfl
@[simp] theorem State.setFli_gcu (f : Fli) : (s.setFli f).gcu = s.gcu := rfl
@[simp] theorem State.setFli_dtg (f : Fli) : (s.setFli f).dtg = s.dtg := rfl
@[simp] theorem State.setFli_lnu (f : Fli) : (s.setFli f).lnu = s.lnu := rfl
@[simp] theorem State.setFli_pst (f : Fli) : (s.setFli f).pst = s.pst := rfl

@[simp] theorem State.setUpq_pending (u : Upq) : (s.setUpq u).pending = s.pending := rfl
@[simp] theorem State.setUpq_choices (u : Upq) : (s.setUpq u).choices = s.choices := rfl
@[simp] theorem State.setUpq_fli (u : Upq) : (s.setUpq u).fli = s.fli := rfl
@[simp] theorem State.setUpq_cst (u : Upq) : (s.setUpq u).cst = s.cst := rfl
@[simp] theorem State.setUpq_itb (u : Upq) : (s.setUpq u).itb = s.itb := rfl
@[simp] theorem State.setUpq_upq (u : Upq) : (s.setUpq u).upq = u := rfl
@[simp] theorem State.setUpq_cme (u : Upq) : (s.setUpq u).cme = s.cme := rfl
@[simp] theorem State.setUpq_fau (u : Upq) : (s.setUpq u).fau = s.fau := rfl
@[simp] theorem State.setUpq_sco (u : Upq) : (s.setUpq u).sco = s.sco := rfl
@[simp] theorem State.setUpq_gcu (u : Upq) : (s.setUpq u).gcu = s.gcu := rfl
@[simp] theorem State.setUpq_dtg (u : Upq) : (s.setUpq u).dtg = s.dtg := rfl
@[simp] theorem State.setUpq_lnu (u : Upq) : (s.setUpq u).lnu = s.lnu := rfl
@[simp] theorem State.setUpq_pst (u : Upq) : (s.setUpq u).pst = s.pst := rfl

@[simp] theorem State.setCme_pending (c : Cme) : (s.setCme c).pending = s.pending := rfl
@[simp] theorem State.setCme_choices (c : Cme) : (s.setCme c).choices = s.choices := rfl
@[simp] theorem State.setCme_fli (c : Cme) : (s.setCme c).fli = s.fli := rfl
@[simp] theorem State.setCme_cst (c : Cme) : (s.setCme c).cst = s.cst := rfl
@[simp] theorem State.setCme_itb (c : Cme) : (s.setCme c).itb = s.itb := rfl
@[simp] theorem State.setCme_upq (c : Cme) : (s.setCme c).upq = s.upq := rfl
@[simp] theorem State.setCme_cme (c : Cme) : (s.setCme c).cme = c := rfl
@[simp] theorem State.setCme_fau (c : Cme) : (s.setCme c).fau = s.fau := rfl
@[simp] theorem State.setCme_sco (c : Cme) : (s.setCme c).sco = s.sco := rfl
@[simp] theorem State.setCme_gcu (c : Cme) : (s.setCme c).gcu = s.gcu := rfl
@[simp] theorem State.setCme_dtg (c : Cme) : (s.setCme c).dtg = s.dtg := rfl
@[simp] theorem State.setCme_lnu (c : Cme) : (s.setCme c).lnu = s.lnu := rfl
@[simp] theorem State.setCme_pst (c : Cme) : (s.setCme c).pst = s.pst := rfl

@[simp] theorem State.setFau_pending (f : Fau) : (s.setFau f).pending = s.pending := rfl
@[simp] theorem State.setFau_choices (f : Fau) : (s.setFau f).choices = s.choices := rfl
@[simp] theorem State.setFau_fli (f : Fau) : (s.setFau f).fli = s.fli := rfl
@[simp] theorem State.setFau_cst (f : Fau) : (s.setFau f).cst = s.cst := rfl
@[simp] theorem State.setFau_itb (f : Fau) : (s.setFau f).itb = s.itb := rfl
@[simp] theorem State.setFau_upq (f : Fau) : (s.setFau f).upq = s.upq := rfl
@[simp] theorem State.setFau_cme (f : Fau) : (s.setFau f).cme = s.cme := rfl
@[simp] theorem State.setFau_fau (f : Fau) : (s.setFau f).fau = f := rfl
@[simp] theorem State.setFau_sco (f : Fau) : (s.setFau f).sco = s.sco := rfl
@[simp] theorem State.setFau_gcu (f : Fau) : (s.setFau f).gcu = s.gcu := rfl
@[simp] theorem State.setFau_dtg (f : Fau) : (s.setFau f).dtg = s.dtg := rfl
@[simp] theorem State.setFau_lnu (f : Fau) : (s.setFau f).lnu = s.lnu := rfl
@[simp] theorem State.setFau_pst (f : Fau) : (s.setFau f).pst = s.pst := rfl

@[simp] theorem State.setSco_pending (c : Sco) : (s.setSco c).pending = s.pending := rfl
@[simp] theorem State.setSco_choices (c : Sco) : (s.setSco c).choices = s.choices := rfl
@[simp] theorem State.setSco_fli (c : Sco) : (s.setSco c).fli = s.fli := rfl
@[simp] theorem State.setSco_cst (c : Sco) : (s.setSco c).cst = s.cst := rfl
@[simp] theorem State.setSco_itb (c : Sco) : (s.setSco c).itb = s.itb := rfl
@[simp] theorem State.setSco_upq (c : Sco) : (s.setSco c).upq = s.upq := rfl
@[simp] theorem State.setSco_cme (c : Sco) : (s.setSco c).cme = s.cme := rfl
@[simp] theorem State.setSco_fau (c : Sco) : (s.setSco c).fau = s.fau := rfl
@[simp] theorem State.setSco_sco (c : Sco) : (s.setSco c).sco = c := rfl
@[simp] theorem State.setSco_gcu (c : Sco) : (s.setSco c).gcu = s.gcu := rfl
@[simp] theorem State.setSco_dtg (c : Sco) : (s.setSco c).dtg = s.dtg := rfl
@[simp] theorem State.setSco_lnu (c : Sco) : (s.setSco c).lnu = s.lnu := rfl
@[simp] theorem State.setSco_pst (c : Sco) : (s.setSco c).pst = s.pst := rfl

@[simp] theorem State.setGcu_pending (g : Gcu) : (s.setGcu g).pending = s.pending := rfl
@[simp] theorem State.setGcu_choices (g : Gcu) : (s.setGcu g).choices = s.choices := rfl
@[simp] theorem State.setGcu_fli (g : Gcu) : (s.setGcu g).fli = s.fli := rfl
@[simp] theorem State.setGcu_cst (g : Gcu) : (s.setGcu g).cst = s.cst := rfl
@[simp] theorem State.setGcu_itb (g : Gcu) : (s.setGcu g).itb = s.itb := rfl
@[simp] theorem State.setGcu_upq (g : Gcu) : (s.setGcu g).upq = s.upq := rfl
@[simp] theorem State.setGcu_cme (g : Gcu) : (s.setGcu g).cme = s.cme := rfl
@[simp] theorem State.setGcu_fau (g : Gcu) : (s.setGcu g).fau = s.fau := rfl
@[simp] theorem State.setGcu_sco (g : Gcu) : (s.setGcu g).sco = s.sco := rfl
@[simp] theorem State.setGcu_gcu (g : Gcu) : (s.setGcu g).gcu = g := rfl
@[simp] theorem State.setGcu_dtg (g : Gcu) : (s.setGcu g).dtg = s.dtg := rfl
@[simp] theorem State.setGcu_lnu (g : Gcu) : (s.setGcu g).lnu = s.lnu := rfl
@[simp] theorem State.setGcu_pst (g : Gcu) : (s.setGcu g).pst = s.pst := rfl

@[simp] theorem State.setDtg_pending (d : Dtg) : (s.setDtg d).pending = s.pending := rfl
@[simp] theorem State.setDtg_choices (d : Dtg) : (s.setDtg d).choices = s.choices := rfl
@[simp] theorem State.setDtg_fli (d : Dtg) : (s.setDtg d).fli = s.fli := rfl
@[simp] theorem State.setDtg_cst (d : Dtg) : (s.setDtg d).cst = s.cst := rfl
@[simp] theorem State.setDtg_itb (d : Dtg) : (s.setDtg d).itb = s.itb := rfl
@[simp] theorem State.setDtg_upq (d : Dtg) : (s.setDtg d).upq = s.upq := rfl
@[simp] theorem State.setDtg_cme (d : Dtg) : (s.setDtg d).cme = s.cme := rfl
@[simp] theorem State.setDtg_fau (d : Dtg) : (s.setDtg d).fau = s.fau := rfl
@[simp] theorem State.setDtg_sco (d : Dtg) : (s.setDtg d).sco = s.sco := rfl
@[simp] theorem State.setDtg_gcu (d : Dtg) : (s.setDtg d).gcu = s.gcu := rfl
@[simp] theorem State.setDtg_dtg (d : Dtg) : (s.setDtg d).dtg = d := rfl
@[simp] theorem State.setDtg_lnu (d : Dtg) : (s.setDtg d).lnu = s.lnu := rfl
@[simp] theorem State.setDtg_pst (d : Dtg) : (s.setDtg d).pst = s.pst := rfl

@[simp] theorem State.setLines_pending (t : Table Line) : (s.setLines t).pending = s.pending := rfl
@[simp] theorem State.setLines_choices (t : Table Line) : (s.setLines t).choices = s.choices := rfl
@[simp] theorem State.setLines_fli (t : Table Line) : (s.setLines t).fli = s.fli := rfl
@[simp] theorem State.setLines_cst (t : Table Line) : (s.setLines t).cst = s.cst := rfl
@[simp] theorem State.setLines_itb (t : Table Line) : (s.setLines t).itb = s.itb := rfl
@[simp] theorem State.setLines_upq (t : Table Line) : (s.setLines t).upq = s.upq := rfl
@[simp] theorem State.setLines_cme (t : Table Line) : (s.setLines t).cme = s.cme := rfl
@[simp] theorem State.setLines_fau (t : Table Line) : (s.setLines t).fau = s.fau := rfl
@[simp] theorem State.setLines_sco (t : Table Line) : (s.setLines t).sco = s.sco := rfl
@[simp] theorem State.setLines_gcu (t : Table Line) : (s.setLines t).gcu = s.gcu := rfl
@[simp] theorem State.setLines_dtg (t : Table Line) : (s.setLines t).dtg = s.dtg := rfl
@[simp] theorem State.setLines_lnu (t : Table Line) : (s.setLines t).lnu = ⟨t⟩ := rfl
@[simp] theorem State.setLines_pst (t : Table Line) : (s.setLines t).pst = s.pst := rfl

@[simp] theorem State.setPst_pending (p : Pst) : (s.setPst p).pending = s.pending := rfl
@[simp] theorem State.setPst_choices (p : Pst) : (s.setPst p).choices = s.choices := rfl
@[simp] theorem State.setPst_fli (p : Pst) : (s.setPst p).fli = s.fli := rfl
@[simp] theorem State.setPst_cst (p : Pst) : (s.setPst p).cst = s.cst := rfl
@[simp] theorem State.setPst_itb (p : Pst) : (s.setPst p).itb = s.itb := rfl
@[simp] theorem State.setPst_upq (p : Pst) : (s.setPst p).upq = s.upq := rfl
@[simp] theorem State.setPst_cme (p : Pst) : (s.setPst p).cme = s.cme := rfl
@[simp] theorem State.setPst_fau (p : Pst) : (s.setPst p).fau = s.fau := rfl
@[simp] theorem State.setPst_sco (p : Pst) : (s.setPst p).sco = s.sco := rfl
@[simp] theorem State.setPst_gcu (p : Pst) : (s.setPst p).gcu = s.gcu := rfl
@[simp] theorem State.setPst_dtg (p : Pst) : (s.setPst p).dtg = s.dtg := rfl
@[simp] theorem State.setPst_lnu (p : Pst) : (s.setPst p).lnu = s.lnu := rfl
@[simp] theorem State.setPst_pst (p : Pst) : (s.setPst p).pst = p := rfl

@[simp] theorem State.draw_pending : s.draw.pending = s.pending := rfl
@[simp] theorem State.draw_choices : s.draw.choices = s.choices + 1 := rfl
@[simp] theorem State.draw_fli : s.draw.fli = s.fli := rfl
@[simp] theorem State.draw_cst : s.draw.cst = s.cst := rfl
@[simp] theorem State.draw_itb : s.draw.itb = s.itb := rfl
@[simp] theorem State.draw_upq : s.draw.upq = s.upq := rfl
@[simp] theorem State.draw_cme : s.draw.cme = s.cme := rfl
@[simp] theorem State.draw_fau : s.draw.fau = s.fau := rfl
@[simp] theorem State.draw_sco : s.draw.sco = s.sco := rfl
@[simp] theorem State.draw_gcu : s.draw.gcu = s.gcu := rfl
@[simp] theorem State.draw_dtg : s.draw.dtg = s.dtg := rfl
@[simp] theorem State.draw_lnu : s.draw.lnu = s.lnu := rfl
@[simp] theorem State.draw_pst : s.draw.pst = s.pst := rfl

@[simp] theorem State.setSlot_pending (n : Nat) (r : Slot) : (s.setSlot n r).pending = s.pending := rfl
@[simp] theorem State.setSlot_choices (n : Nat) (r : Slot) : (s.setSlot n r).choices = s.choices := rfl
@[simp] theorem State.setSlot_fli (n : Nat) (r : Slot) : (s.setSlot n r).fli = s.fli := rfl
@[simp] theorem State.setSlot_cst (n : Nat) (r : Slot) : (s.setSlot n r).cst = s.cst := rfl
@[simp] theorem State.setSlot_itb (n : Nat) (r : Slot) :
    (s.setSlot n r).itb = { s.itb with slots := Table.set .empty s.itb.slots n r } := rfl
@[simp] theorem State.setSlot_upq (n : Nat) (r : Slot) : (s.setSlot n r).upq = s.upq := rfl
@[simp] theorem State.setSlot_cme (n : Nat) (r : Slot) : (s.setSlot n r).cme = s.cme := rfl
@[simp] theorem State.setSlot_fau (n : Nat) (r : Slot) : (s.setSlot n r).fau = s.fau := rfl
@[simp] theorem State.setSlot_sco (n : Nat) (r : Slot) : (s.setSlot n r).sco = s.sco := rfl
@[simp] theorem State.setSlot_gcu (n : Nat) (r : Slot) : (s.setSlot n r).gcu = s.gcu := rfl
@[simp] theorem State.setSlot_dtg (n : Nat) (r : Slot) : (s.setSlot n r).dtg = s.dtg := rfl
@[simp] theorem State.setSlot_lnu (n : Nat) (r : Slot) : (s.setSlot n r).lnu = s.lnu := rfl
@[simp] theorem State.setSlot_pst (n : Nat) (r : Slot) : (s.setSlot n r).pst = s.pst := rfl

@[simp] theorem State.writeCells_pending (a : Nat) (cs : List Cell) : (s.writeCells a cs).pending = s.pending := rfl
@[simp] theorem State.writeCells_choices (a : Nat) (cs : List Cell) : (s.writeCells a cs).choices = s.choices := rfl
@[simp] theorem State.writeCells_fli (a : Nat) (cs : List Cell) : (s.writeCells a cs).fli = s.fli := rfl
@[simp] theorem State.writeCells_cst (a : Nat) (cs : List Cell) :
    (s.writeCells a cs).cst = { s.cst with cells := Table.writeRun .blank s.cst.cells a cs } := rfl
@[simp] theorem State.writeCells_itb (a : Nat) (cs : List Cell) : (s.writeCells a cs).itb = s.itb := rfl
@[simp] theorem State.writeCells_upq (a : Nat) (cs : List Cell) : (s.writeCells a cs).upq = s.upq := rfl
@[simp] theorem State.writeCells_cme (a : Nat) (cs : List Cell) : (s.writeCells a cs).cme = s.cme := rfl
@[simp] theorem State.writeCells_fau (a : Nat) (cs : List Cell) : (s.writeCells a cs).fau = s.fau := rfl
@[simp] theorem State.writeCells_sco (a : Nat) (cs : List Cell) : (s.writeCells a cs).sco = s.sco := rfl
@[simp] theorem State.writeCells_gcu (a : Nat) (cs : List Cell) : (s.writeCells a cs).gcu = s.gcu := rfl
@[simp] theorem State.writeCells_dtg (a : Nat) (cs : List Cell) : (s.writeCells a cs).dtg = s.dtg := rfl
@[simp] theorem State.writeCells_lnu (a : Nat) (cs : List Cell) : (s.writeCells a cs).lnu = s.lnu := rfl
@[simp] theorem State.writeCells_pst (a : Nat) (cs : List Cell) : (s.writeCells a cs).pst = s.pst := rfl

@[simp] theorem State.dropHead_pending : s.dropHead.pending = s.pending := rfl
@[simp] theorem State.dropHead_choices : s.dropHead.choices = s.choices := rfl
@[simp] theorem State.dropHead_fli : s.dropHead.fli = { s.fli with inQ := s.fli.inQ.tail } := rfl
@[simp] theorem State.dropHead_cst : s.dropHead.cst = s.cst := rfl
@[simp] theorem State.dropHead_itb : s.dropHead.itb = s.itb := rfl
@[simp] theorem State.dropHead_upq : s.dropHead.upq = s.upq := rfl
@[simp] theorem State.dropHead_cme : s.dropHead.cme = s.cme := rfl
@[simp] theorem State.dropHead_fau : s.dropHead.fau = s.fau := rfl
@[simp] theorem State.dropHead_sco : s.dropHead.sco = s.sco := rfl
@[simp] theorem State.dropHead_gcu : s.dropHead.gcu = s.gcu := rfl
@[simp] theorem State.dropHead_dtg : s.dropHead.dtg = s.dtg := rfl
@[simp] theorem State.dropHead_lnu : s.dropHead.lnu = s.lnu := rfl
@[simp] theorem State.dropHead_pst : s.dropHead.pst = s.pst := rfl

@[simp] theorem State.reply_pending (k t : Byte) (st : Status) (b : ReplyBody) :
    (s.reply k t st b).pending = s.pending := rfl
@[simp] theorem State.reply_choices (k t : Byte) (st : Status) (b : ReplyBody) :
    (s.reply k t st b).choices = s.choices := rfl
@[simp] theorem State.reply_fli (k t : Byte) (st : Status) (b : ReplyBody) :
    (s.reply k t st b).fli = { s.fli with
      outQ := s.fli.outQ ++ [.reply k t st s.replyFlags b], overrun := false, nlost := false } := rfl
@[simp] theorem State.reply_cst (k t : Byte) (st : Status) (b : ReplyBody) : (s.reply k t st b).cst = s.cst := rfl
@[simp] theorem State.reply_itb (k t : Byte) (st : Status) (b : ReplyBody) : (s.reply k t st b).itb = s.itb := rfl
@[simp] theorem State.reply_upq (k t : Byte) (st : Status) (b : ReplyBody) : (s.reply k t st b).upq = s.upq := rfl
@[simp] theorem State.reply_cme (k t : Byte) (st : Status) (b : ReplyBody) : (s.reply k t st b).cme = s.cme := rfl
@[simp] theorem State.reply_fau (k t : Byte) (st : Status) (b : ReplyBody) : (s.reply k t st b).fau = s.fau := rfl
@[simp] theorem State.reply_sco (k t : Byte) (st : Status) (b : ReplyBody) : (s.reply k t st b).sco = s.sco := rfl
@[simp] theorem State.reply_gcu (k t : Byte) (st : Status) (b : ReplyBody) : (s.reply k t st b).gcu = s.gcu := rfl
@[simp] theorem State.reply_dtg (k t : Byte) (st : Status) (b : ReplyBody) : (s.reply k t st b).dtg = s.dtg := rfl
@[simp] theorem State.reply_lnu (k t : Byte) (st : Status) (b : ReplyBody) : (s.reply k t st b).lnu = s.lnu := rfl
@[simp] theorem State.reply_pst (k t : Byte) (st : Status) (b : ReplyBody) : (s.reply k t st b).pst = s.pst := rfl

/-! ## Reads after writes -/

@[simp] theorem State.cell_writeCells (a : Nat) (cs : List Cell) (k : Nat) :
    (s.writeCells a cs).cell k = if a ≤ k ∧ k < a + cs.length then cs.getD (k - a) .blank else s.cell k :=
  Table.get_writeRun ..

@[simp] theorem State.slot_setSlot (n : Nat) (r : Slot) (m : Nat) :
    (s.setSlot n r).slot m = if m = n then r else s.slot m := Table.get_set ..

theorem State.slot_congr {s t : State} (h : t.itb.slots = s.itb.slots) (n : Nat) : t.slot n = s.slot n := by
  simp [State.slot, h]

theorem State.layout_congr {s t : State} (h : t.itb.layouts = s.itb.layouts) (l : Nat) : t.layout l = s.layout l := by
  simp [State.layout, h]

theorem State.page_congr {s t : State} (h : t.cst.pages = s.cst.pages) (i : Nat) : t.page i = s.page i := by
  simp [State.page, h]

theorem State.cell_congr {s t : State} (h : t.cst.cells = s.cst.cells) (k : Nat) : t.cell k = s.cell k := by
  simp [State.cell, h]

theorem State.flashEntry_congr {s t : State} (h : t.fau.flash = s.fau.flash) (i : Nat) :
    t.flashEntry i = s.flashEntry i := by
  simp [State.flashEntry, h]

theorem State.keyHold_congr {s t : State} (h : t.lnu = s.lnu) : t.keyHold = s.keyHold := by
  simp [State.keyHold, State.line, h]

theorem State.held_congr {s t : State} (h : t.lnu = s.lnu) (h' : t.cme.linkHold = s.cme.linkHold) :
    t.held = s.held := by
  simp [State.held, State.keyHold_congr h, h']

/-- The flags of a reply read the link's two flags, OVERLOAD, the hold and the alert queue. -/
theorem State.replyFlags_congr {s t : State} (h1 : t.fli.overrun = s.fli.overrun) (h2 : t.fli.nlost = s.fli.nlost)
    (h3 : t.upq.overload = s.upq.overload) (h4 : t.held = s.held) (h5 : t.fau.alerts = s.fau.alerts) :
    t.replyFlags = s.replyFlags := by
  simp [State.replyFlags, h1, h2, h3, h4, h5]

end Sys2Proof.Machine
end

