-- ==== Sys2Proof/Laws/Ops.lean ====
section
/-!
SUPPORT. For each shared operation, one lemma that says what it can do: taking a request, offering a notice, writing the
cells of a placement, starting and ending flashes, firing and acknowledging limits, the step.
-/

namespace Sys2Proof.Machine

/-! ## Taking requests -/

theorem Fli.roomToTake_iff (f : Fli) :
    f.roomToTake = true ↔ f.replies + f.reserved < 8 ∧ f.outQ.length + f.reserved < 48 := by
  unfold Fli.roomToTake
  rw [Bool.and_eq_true, decide_eq_true_iff, decide_eq_true_iff]
  rfl

theorem State.canTake_iff (s : State) (f : Frame) :
    s.canTake f = true ↔
      (s.fli.replies + s.fli.reserved < 8 ∧ s.fli.outQ.length + s.fli.reserved < 48) ∧
        (s.fli.inQ = [] ∨ s.fli.inQ.head? = some f) := by
  simp [State.canTake, Fli.roomToTake_iff, List.isEmpty_iff]

theorem State.serve_taken {s : State} {f : Frame} (h : s.canTake f = true) (act : State → Answer) :
    s.serve f act = .next ((act s.dropHead).finish f) := if_pos h

theorem State.serve_waits {s : State} {f : Frame} (h : s.canTake f = false) (hh : s.fli.inQ.head? = some f)
    (act : State → Answer) : s.serve f act = .next s := by
  simp [State.serve, h, hh]

theorem State.serve_joins {s : State} {f : Frame} (h : s.canTake f = false) (hh : s.fli.inQ.head? ≠ some f)
    (act : State → Answer) : s.serve f act = .next (s.setFli (s.fli.arrive f)) := by
  simp [State.serve, h, hh]

/-- A request is taken, waits at the head, or joins the input record queue. -/
theorem State.serve_cases (s : State) (f : Frame) (act : State → Answer) :
    (s.canTake f = true ∧ s.serve f act = .next ((act s.dropHead).finish f)) ∨
    (s.canTake f = false ∧ s.fli.inQ.head? = some f ∧ s.serve f act = .next s) ∨
    (s.canTake f = false ∧ s.fli.inQ.head? ≠ some f ∧ s.serve f act = .next (s.setFli (s.fli.arrive f))) := by
  cases h : s.canTake f
  · by_cases hh : s.fli.inQ.head? = some f
    · exact .inr (.inl ⟨rfl, hh, State.serve_waits h hh act⟩)
    · exact .inr (.inr ⟨rfl, hh, State.serve_joins h hh act⟩)
  · exact .inl ⟨rfl, State.serve_taken h act⟩

@[simp] theorem withOps_ops {α : Type} (o : α) (act : α → State → Answer) (s : State) :
    withOps (.ops o) act s = act o s := rfl

@[simp] theorem withOps_malformed {α : Type} (bytes : List Byte) (act : α → State → Answer) (s : State) :
    withOps (.malformed bytes) act s = refuse .badLength s := rfl

@[simp] theorem finish_refuse (st : Status) (s : State) (f : Frame) :
    (refuse st s).finish f = s.reply (replyKind f.kind) f.tag st .empty := rfl

@[simp] theorem finish_accept (b : ReplyBody) (s : State) (f : Frame) :
    (accept b s).finish f = s.reply (replyKind f.kind) f.tag .ok b := rfl

/-- The head of the queue taken off changes no flag of a reply. -/
@[simp] theorem State.dropHead_replyFlags (s : State) : s.dropHead.replyFlags = s.replyFlags := rfl

theorem Fli.arrive_eq (f : Fli) (g : Frame) :
    f.arrive g = if f.inQ.length < 8 then { f with inQ := f.inQ ++ [g] } else { f with overrun := true } := rfl

theorem Fli.arrive_length (f : Fli) (g : Frame) (h : f.inQ.length ≤ 8) : (f.arrive g).inQ.length ≤ 8 := by
  rw [Fli.arrive_eq]
  split
  · simp
    omega
  · exact h

/-! ## Notices -/

/-- A notice is appended while a place is free, else discarded with NLOST. -/
theorem State.offer_eq (s : State) (n : OutEntry) :
    s.offer n = s.setFli (if s.fli.outQ.length + s.fli.reserved < 48 then { s.fli with outQ := s.fli.outQ ++ [n] }
      else { s.fli with nlost := true }) := by
  unfold State.offer
  split
  · rw [if_pos (by assumption)]
  · rw [if_neg (by assumption)]

/-- Nothing but the output queue and NLOST. -/
def SameButNotices (s t : State) : Prop := t = { s with fli := { s.fli with outQ := t.fli.outQ, nlost := t.fli.nlost } }

theorem SameButNotices.refl (s : State) : SameButNotices s s := rfl

theorem SameButNotices.trans {s t u : State} (h : SameButNotices s t) (h' : SameButNotices t u) :
    SameButNotices s u := by
  unfold SameButNotices at *
  rw [h'] at ⊢
  rw [h]

theorem State.offer_frame (s : State) (n : OutEntry) : SameButNotices s (s.offer n) := by
  unfold SameButNotices State.offer
  split <;> rfl

theorem State.frameNotice_frame (s : State) (a b : Bool) : SameButNotices s (s.frameNotice a b) := by
  unfold State.frameNotice
  split
  · exact State.offer_frame ..
  · exact .refl s

theorem State.alertNotice_frame (s : State) (e : AlertEvent) (a : AlertRec) : SameButNotices s (s.alertNotice e a) := by
  unfold State.alertNotice
  split
  · exact State.offer_frame ..
  · exact .refl s

/-- The edge of a line is reported in the output queue, or marks NLOST. -/
theorem State.lineNotice_frame (s : State) (l : Nat) : SameButNotices s (s.lineNotice l) := by
  unfold State.lineNotice
  simp only
  split
  · rfl
  · split
    · exact State.offer_frame ..
    · exact .refl s

/-! ## Cells -/

/-- Nothing but the cells. -/
def SameButCells (s t : State) : Prop := t = s.setCells t.cst.cells

theorem SameButCells.refl (s : State) : SameButCells s s := rfl

theorem SameButCells.trans {s t u : State} (h : SameButCells s t) (h' : SameButCells t u) : SameButCells s u := by
  unfold SameButCells at *
  rw [h'] at ⊢
  rw [h]
  rfl

/-- Folding a step that keeps a relation keeps it. -/
theorem foldl_rel {α : Type} (r : State → State → Prop) (hr : ∀ s, r s s) (ht : ∀ a b c, r a b → r b c → r a c)
    {f : State → α → State} (hf : ∀ s a, r s (f s a)) (l : List α) (s : State) : r s (l.foldl f s) := by
  induction l generalizing s with
  | nil => exact hr s
  | cons a l ih => exact ht _ _ _ (hf s a) (ih (f s a))

theorem State.writeCells_frame (s : State) (a : Nat) (cs : List Cell) : SameButCells s (s.writeCells a cs) := rfl

theorem State.writePlacement_frame (mk : State → Column → List Cell) (s : State) (p : Placement) :
    SameButCells s (s.writePlacement mk p) := by
  unfold State.writePlacement
  split
  · exact foldl_rel SameButCells .refl (fun _ _ _ => .trans) (fun s _ => State.writeCells_frame s ..) _ _
  · exact .refl s

theorem State.paintSlot_frame (s : State) (n : Nat) : SameButCells s (s.paintSlot n) :=
  foldl_rel SameButCells .refl (fun _ _ _ => .trans) (fun _ _ => State.writePlacement_frame ..) _ _

theorem State.blankPlacement_frame (s : State) (p : Placement) : SameButCells s (s.blankPlacement p) :=
  State.writePlacement_frame ..

/-- Painting makes the same cells before and after other cells are written. -/
theorem State.columnCells_congr {s t : State} (h : SameButCells s t) (n : Nat) (c : Column) :
    t.columnCells n c = s.columnCells n c := by
  rw [h]
  rfl

/-- A placement whose page and layout are defined is written column by column. -/
theorem State.writePlacement_eq (mk : State → Column → List Cell) (s : State) (p : Placement) {pg : Page}
    {cs : List Column} (hp : s.page p.page = some pg) (hl : s.layout p.layout = some cs) :
    s.writePlacement mk p = cs.foldl (State.writeColumn mk pg p) s := by
  simp [State.writePlacement, hp, hl]

/-! ## Flashes -/

/-- Nothing but the cells, the flash table and its age order. -/
def SameButFlash (s t : State) : Prop :=
  t = { s with
    cst := { s.cst with cells := t.cst.cells }
    fau := { s.fau with flash := t.fau.flash, order := t.fau.order } }

theorem SameButFlash.refl (s : State) : SameButFlash s s := rfl

theorem SameButFlash.trans {s t u : State} (h : SameButFlash s t) (h' : SameButFlash t u) : SameButFlash s u := by
  unfold SameButFlash at *
  rw [h'] at ⊢
  rw [h]

theorem SameButCells.flash {s t : State} (h : SameButCells s t) : SameButFlash s t := by
  unfold SameButFlash
  rw [h]
  rfl

theorem State.endFlash_frame (s : State) (i : Nat) : SameButFlash s (s.endFlash i) := by
  unfold State.endFlash
  split <;> rfl

theorem State.putFlash_frame (s : State) (i : Nat) (e : FlashEntry) : SameButFlash s (s.putFlash i e) := rfl

theorem State.newFlash_frame (s : State) (e : FlashEntry) : SameButFlash s (s.newFlash e) := by
  unfold State.newFlash
  split
  · exact State.putFlash_frame ..
  · split
    · exact (State.endFlash_frame ..).trans (State.putFlash_frame ..)
    · exact .refl s

theorem State.movingStart_frame (s : State) (n : Nat) (f : Field) (k : MoveKind) :
    SameButFlash s (s.movingStart n f k) := by
  unfold State.movingStart
  simp only
  split
  · split
    · exact .refl s
    · exact State.newFlash_frame ..
  · split
    · exact .refl s
    · split
      · split
        · exact State.endFlash_frame ..
        · exact State.putFlash_frame ..
      · exact .refl s

theorem State.alertFlash_frame (s : State) (n : Nat) : SameButFlash s (s.alertFlash n) := by
  unfold State.alertFlash
  simp only
  split
  · exact State.newFlash_frame ..
  · split
    · exact .refl s
    · exact State.putFlash_frame ..

theorem State.endAlertFlash_frame (s : State) (n : Nat) : SameButFlash s (s.endAlertFlash n) := by
  unfold State.endAlertFlash
  split
  · exact .refl s
  · split
    · exact State.endFlash_frame ..
    · exact .refl s

theorem State.decayEntry_frame (now : FrameNo) (s : State) (i : Nat) : SameButFlash s (s.decayEntry now i) := by
  unfold State.decayEntry
  split
  · exact .refl s
  · split
    · exact .refl s
    · split
      · exact .refl s
      · split
        · exact State.endFlash_frame ..
        · rfl

theorem State.decay_frame (s : State) : SameButFlash s s.decay :=
  foldl_rel SameButFlash .refl (fun _ _ _ => .trans) (fun _ _ => State.decayEntry_frame ..) _ _

/-- The entry that ends is free, and every other stays. -/
theorem State.flashEntry_endFlash (s : State) (i j : Nat) :
    (s.endFlash i).flashEntry j = if j = i then none else s.flashEntry j := by
  unfold State.endFlash
  split
  · simp [State.flashEntry, State.releaseCells]
  · rename_i h
    split
    · subst j
      exact h
    · rfl

/-- The entry that is put holds the new record, and every other stays. -/
@[simp] theorem State.flashEntry_putFlash (s : State) (i : Nat) (e : FlashEntry) (j : Nat) :
    (s.putFlash i e).flashEntry j = if j = i then some e else s.flashEntry j := by
  simp [State.flashEntry, State.putFlash]

/-! ## Limits -/

/-- Nothing but the cells, the slots, the Flash and Alert Unit and the notices. -/
def SameButAlerts (s t : State) : Prop :=
  t = { s with
    fli := { s.fli with outQ := t.fli.outQ, nlost := t.fli.nlost }
    cst := { s.cst with cells := t.cst.cells }
    itb := { s.itb with slots := t.itb.slots }
    fau := t.fau }

theorem SameButAlerts.refl (s : State) : SameButAlerts s s := rfl

theorem SameButAlerts.trans {s t u : State} (h : SameButAlerts s t) (h' : SameButAlerts t u) :
    SameButAlerts s u := by
  unfold SameButAlerts at *
  rw [h'] at ⊢
  rw [h]

theorem SameButFlash.alerts {s t : State} (h : SameButFlash s t) : SameButAlerts s t := by
  unfold SameButAlerts
  rw [h]

theorem SameButNotices.alerts {s t : State} (h : SameButNotices s t) : SameButAlerts s t := by
  unfold SameButAlerts
  rw [h]

theorem State.setSlot_frame (s : State) (n : Nat) (r : Slot) : SameButAlerts s (s.setSlot n r) := rfl

theorem State.setFau_frame (s : State) (f : Fau) : SameButAlerts s (s.setFau f) := rfl

theorem State.fire_frame (s : State) (n : Nat) (side : Side) (level v : Int) :
    SameButAlerts s (s.fire n side level v) :=
  (State.setSlot_frame ..).trans ((State.setFau_frame ..).trans
    ((State.alertFlash_frame ..).alerts.trans (State.alertNotice_frame ..).alerts))

theorem State.checkLimit_frame (s : State) (n : Nat) (v : Int) (side : Side) :
    SameButAlerts s (s.checkLimit n v side) := by
  unfold State.checkLimit
  split
  · split
    · exact State.fire_frame ..
    · exact .refl s
  · exact .refl s
  · exact .refl s

theorem State.alertCheck_frame (s : State) (n : Nat) (v : Int) : SameButAlerts s (s.alertCheck n v) :=
  (State.checkLimit_frame ..).trans (State.checkLimit_frame ..)

theorem State.acknowledge_frame (s : State) (n : Nat) (side : Side) : SameButAlerts s (s.acknowledge n side) := by
  unfold State.acknowledge
  simp only
  split
  · exact (State.setFau_frame ..).trans (State.setSlot_frame ..)
  · exact (State.setFau_frame ..).trans ((State.setSlot_frame ..).trans (State.endAlertFlash_frame ..).alerts)

/-! ## The crawl -/

/-- What one step of the crawl can do, the offset already lowered (R136, R138): the lead falls; the first step after
text has entered leaves everything; the ring, empty or of one character, ends empty and the lead reloads; or the head
leaves. -/
theorem Sco.crawlStep_cases (c : Sco) (cols : Nat) :
    (0 < c.lead ∧ c.crawlStep cols = { c with lead := c.lead - 1 }) ∨
    (c.lead = 0 ∧ c.entered = true ∧ c.crawlStep cols = { c with entered := false }) ∨
    (c.lead = 0 ∧ c.entered = false ∧ c.ring.length ≤ 1 ∧
      c.crawlStep cols = { c with ring := [], lead := cols, offset := 0 }) ∨
    (c.lead = 0 ∧ c.entered = false ∧ 2 ≤ c.ring.length ∧ c.crawlStep cols = { c with ring := c.ring.tail }) := by
  unfold Sco.crawlStep
  by_cases hl : 0 < c.lead
  · simp [hl]
  · have h0 : c.lead = 0 := by omega
    cases he : c.entered
    · rcases hr : c.ring with _ | ⟨x, _ | ⟨y, rest⟩⟩ <;> simp [h0]
    · simp [h0]

/-- Nothing but the ring and the mark of text that has entered. -/
theorem Sco.append_frame (c : Sco) (text : List CrawlChar) :
    c.append text = { c with ring := c.ring ++ text, entered := (c.append text).entered } := rfl

/-! ## The panel -/

/-- The pixels of a line: one for each column of the picture while active lines are sent, none else (R159, R162). -/
theorem State.panelLine_length (s : State) (l : Nat) :
    (s.panelLine l).pixels.length =
      if s.sending = true ∧ s.dtg.activeFormat.blankLines ≤ l ∧ l < s.dtg.activeFormat.lines then
        s.dtg.activeFormat.pixelW
      else 0 := by
  unfold State.panelLine Format.activeLine?
  by_cases hs : s.sending = true <;>
    by_cases hl : s.dtg.activeFormat.blankLines ≤ l ∧ l < s.dtg.activeFormat.lines <;>
    simp [hs, hl, State.pixelLine]

/-! ## The step -/

theorem step_cons (s : State) (i : Instr) (rest : List Instr) (h : s.pending = i :: rest) :
    step s = exec i { s with pending := rest } := by
  simp [step, h]

theorem step_nil (s : State) (h : s.pending = []) : step s = .next s := by
  simp [step, h]

end Sys2Proof.Machine
end

