-- ==== Sys2Proof/Tests/Slice0.lean ====
section
/-!
SUPPORT. Tests: ill-formed commands refused by WellFormed; request frames, texts and colours from the spec's tables and
worked cases; one or two small steps of each command; and, for every statement with hypotheses, a state and operands
that meet them.
-/

set_option Elab.async false

namespace Sys2Proof.Tests

open Sys2Proof.Machine Sys2Proof.Claims

/-! ## WellFormed refuses -/

theorem test_wf_refuses_fit_malformed : Instr.wf (.format 1 (.malformed [0])) = false := by decide +kernel

theorem test_wf_refuses_oversize_malformed : Instr.wf (.format 1 (.malformed (List.replicate 1023 0))) = false := by
  decide +kernel

theorem test_wf_refuses_long_banner : Instr.wf (.screen 1 (.ops ⟨0, 0, List.replicate 256 0x41⟩)) = false := by
  decide +kernel

theorem test_wf_refuses_long_palette :
    Instr.wf (.palette 1 (.ops ⟨0, List.replicate 256 ⟨0, 0, 0⟩⟩)) = false := by decide +kernel

theorem test_wf_refuses_short_glyph : Instr.wf (.glyphs 1 (.ops ⟨1, 0, [List.replicate 19 0]⟩)) = false := by decide +kernel

theorem test_wf_refuses_many_glyphs :
    Instr.wf (.glyphs 1 (.ops ⟨1, 0, List.replicate 26 (List.replicate 20 0)⟩)) = false := by decide +kernel

theorem test_wf_refuses_long_text : Instr.wf (.text 1 (.ops ⟨0, 0, 0, 0, 0, 0, List.replicate 256 0⟩)) = false := by
  decide +kernel

theorem test_wf_refuses_long_crawl : Instr.wf (.crawl 1 (.ops ⟨0, 0, List.replicate 510 0⟩)) = false := by
  decide +kernel

theorem test_wf_refuses_long_symbol : Instr.wf (.define 1 (.ops ⟨0, List.replicate 256 0, 0, 0, 0, 0⟩)) = false := by
  decide +kernel

theorem test_wf_refuses_many_columns :
    Instr.wf (.layout 1 (.ops ⟨0, List.replicate 128 ⟨0, 0, 0, 0, 0, 0, 0, 0⟩⟩)) = false := by decide +kernel

theorem test_wf_refuses_many_pairs : Instr.wf (.post 1 (.ops ⟨0, List.replicate 171 ⟨0, 0⟩⟩)) = false := by
  decide +kernel

theorem test_wf_refuses_known_kind : Instr.wf (.unknownKind 0x30 1 []) = false := by decide +kernel

theorem test_wf_admits : Instr.wf (.post 1 (.ops ⟨5, [⟨2, 10250⟩]⟩)) = true ∧
    Instr.wf (.unknownKind 0x2F 1 [9]) = true ∧ Instr.wf (.drop 1 (.malformed [])) = true := by decide +kernel

/-! ## Frames of requests, from the tables of R184 and R185 -/

/-- The STATUS frame of 10.10: check byte 0xC7. -/
theorem test_frame_status : frameBytes [0x30, 7] = [0xA5, 0, 2, 0x30, 7, 0xC7] := by decide +kernel

theorem test_decode_mode : decodeFrame ⟨0x02, 9, [1, 10, 20, 1, 0]⟩ = .mode 9 (.ops ⟨1, 10, 20, 1, 0⟩) := by decide +kernel

theorem test_decode_page : decodeFrame ⟨0x10, 9, [3, 0x12, 0x34, 5, 6]⟩ = .page 9 (.ops ⟨3, 0x1234, 5, 6⟩) := by decide +kernel

theorem test_decode_crawl : decodeFrame ⟨0x1B, 9, [4, 5, 0, 1, 0x00, 0x41]⟩ = .crawl 9 (.ops ⟨4, 5, [0x0041]⟩) := by
  decide +kernel

theorem test_decode_define :
    decodeFrame ⟨0x20, 9, [52, 2, 0x41, 0x42, 0, 2, 1, 0x01, 0x2C]⟩ =
      .define 9 (.ops ⟨52, [0x41, 0x42], 0, 2, 1, 300⟩) := by decide +kernel

/-- The value40 of −1 is five bytes of 0xFF (R184). -/
theorem test_decode_post :
    decodeFrame ⟨0x25, 9, [52, 2, 2, 0, 0, 0, 0x28, 0x0A, 6, 0xFF, 0xFF, 0xFF, 0xFF, 0xFF]⟩ =
      .post 9 (.ops ⟨52, [⟨2, 10250⟩, ⟨6, -1⟩]⟩) := by decide +kernel

theorem test_decode_limit : decodeFrame ⟨0x26, 9, [52, 1, 0, 0, 0, 0, 0, 5]⟩ = .limit 9 (.ops ⟨52, 1, 0, some 5⟩) := by
  decide +kernel

theorem test_decode_lines : decodeFrame ⟨0x33, 9, [1, 2, 3, 0]⟩ = .lines 9 (.ops ⟨1, 2, 3, 0⟩) := by decide +kernel

theorem test_decode_wrong_length : decodeFrame ⟨0x34, 9, [0]⟩ = .save 9 (.malformed [0]) := by decide +kernel

theorem test_decode_unknown : decodeFrame ⟨0x40, 9, [0]⟩ = .unknownKind 0x40 9 [0] := by decide +kernel

/-! ## Texts of columns, from the worked cases 5.10 to 5.12 -/

/-- A text as numbers. -/
def codes (t : Text) : List Nat := t.map BitVec.toNat

/-- A price column of a width, with the options SEP and MAXDEC. -/
def priceColumn (w : Nat) (sep : Bool) (maxdec : Nat) : Column := ⟨.field .last, 0, w, .right, 0, sep, maxdec, false⟩

/-- A slot of a scale with LAST and REF. -/
def priced (sc : Scale) (last ref : Int) : Slot :=
  { Slot.empty with state := .fresh, scale := some sc, values := [(2, some last), (6, some ref)] }

/-- DEC 4, 1,234,567, MAXDEC 2, width 5: "123.5". -/
theorem test_text_decimals :
    codes (columnText (priced (.dec 4) 1234567 0) (priceColumn 5 false 2)) = [49, 50, 51, 46, 53] := by decide +kernel

/-- DEC 2, 123,456,789, SEP, width 12: "1,234,567.89". -/
theorem test_text_separators :
    codes (columnText (priced (.dec 2) 123456789 0) (priceColumn 12 true 2)) =
      [49, 44, 50, 51, 52, 44, 53, 54, 55, 46, 56, 57] := by decide +kernel

/-- DEC 3, −4, MAXDEC 2: "0.00", with no sign. -/
theorem test_text_negative_zero :
    codes (columnText (priced (.dec 3) (-4) 0) (priceColumn 4 false 2)) = [48, 46, 48, 48] := by decide +kernel

/-- FRAC 3, −21: "-2 5/8". -/
theorem test_text_fraction :
    codes (columnText (priced (.frac 3) (-21) 0) (priceColumn 6 false 6)) = [45, 50, 32, 53, 47, 56] := by
  decide +kernel

/-- H32, 6,497: "101-16+", and in width 6 "######". -/
theorem test_text_thirty_seconds :
    codes (columnText (priced .h32 6497 0) (priceColumn 7 false 6)) = [49, 48, 49, 45, 49, 54, 43] ∧
    codes (columnText (priced .h32 6497 0) (priceColumn 6 false 6)) = List.replicate 6 35 := by decide +kernel

/-- 1,234,567 with SEP and COMPRESS, width 6: "1235K". -/
theorem test_text_size : codes (fitText 5 .left 0x2A (sizeTexts true true 1234567)) = [49, 50, 51, 53, 75] := by
  decide +kernel

/-- DEC 2, 10,125 against 10,000: PCT in width 5 "+1.25"; 1,500 against 0: "--". -/
theorem test_text_percentage :
    codes (columnText (priced (.dec 2) 10125 10000) ⟨.pct, 0, 5, .right, 0, false, 6, false⟩) = [43, 49, 46, 50, 53] ∧
    codes (columnText (priced (.dec 2) 1500 0) ⟨.pct, 0, 3, .right, 0, false, 6, false⟩) = [32, 45, 45] := by
  decide +kernel

/-! ## A small machine -/

/-- Slot 5 is "ABC", DEC 2, with a LAST of 10,000, a HIGH limit armed at 10,200 and a placement. -/
def slot5 : Slot :=
  { Slot.empty with
    state := .fresh, symbol := [0x41, 0x42, 0x43], scale := some (.dec 2), stale := 3, age := 2, lastTake := some 1
    values := [(2, some 10000)], placements := [⟨0, 1, 2, 2⟩], high := .armed 10200 }

/-- The columns LAST and ARROW. -/
def columns2 : List Column :=
  [⟨.field .last, 0, 6, .right, 0, false, 2, false⟩, ⟨.arrow, 7, 1, .left, 0, false, 0, false⟩]

/-- Page 0 holds 4 rows of 30 cells from cell 100 on; slot 5 waits with LAST 10,250; a commit runs in frame 2. -/
def small : State :=
  { State.reset with
    cst := ⟨[], [(0, some ⟨100, 4, 30⟩)]⟩
    itb := ⟨[(5, slot5)], [(2, some columns2)]⟩
    upq := ⟨[(42, some 10250)], [5], false, 0, false⟩
    cme := ⟨.committing, 2, 192, 0, 0, false, false⟩
    dtg := { State.reset.dtg with counter := 2, restart := false } }

/-- The small machine in SCAN, its commit over. -/
def scanning : State :=
  { small with
    cme := { small.cme with state := .idle }, dtg := { small.dtg with phase := .scan } }

/-- The small machine with HIGH FIRED: the alert waits and LAST is in ALERT flash. -/
def alarmed : State :=
  { scanning with
    itb := ⟨[(5, { slot5 with high := .fired 10200 })], [(2, some columns2)]⟩
    fau := ⟨[(0, some ⟨5, .last, .alert, 14, [⟨0, 132, 6⟩]⟩)], [0], [⟨5, .high, 10200, 10250, 2⟩]⟩ }

/-- The small machine with a moving flash of two frames left. -/
def flashing : State :=
  { scanning with fau := ⟨[(0, some ⟨5, .last, .moving .up 30 2 1, 10, [⟨0, 132, 6⟩]⟩)], [0], []⟩ }

/-- The small machine with link hold. -/
def holding : State := { scanning with cme := { scanning.cme with linkHold := true } }

/-- The next state. -/
def after (i : Instr) (s : State) : State :=
  match exec i s with
  | .next t => t
  | .fault _ => s
  | .refused _ => s

/-- The last entry of the output queue, as its payload's bytes. -/
def lastPayload (s : State) : List Byte := (s.fli.outQ.getLast?.map OutEntry.payload).getD []

/-- The request can be taken in the state, and its checks answer `r`. -/
def meets (i : Instr) (s : State) (checks : List (Bool × Status)) (r : Option Status) : Bool :=
  ((encodeFrame i).any fun f => s.canTake f) && decide (firstFailure checks = r)

/-! ## Requests: what meets their statements, and one step -/

/-- FORMAT at the last choice and past it; MODE with a band of the last row, and with a band upside down. -/
theorem test_meets_FormatAndModeStage :
    meets (.format 1 (.ops ⟨3⟩)) small [(true, .badValue)] none = true ∧
    meets (.format 1 (.ops ⟨4⟩)) small [(decide ((4 : Byte).toNat ≤ 3), .badValue)] (some .badValue) = true ∧
    meets (.mode 1 (.ops ⟨1, 63, 63, 1, 1⟩)) small (modeChecks ⟨1, 63, 63, 1, 1⟩) none = true ∧
    meets (.mode 1 (.ops ⟨1, 5, 4, 0, 0⟩)) small (modeChecks ⟨1, 5, 4, 0, 0⟩) (some .badValue) = true ∧
    meets (.mode 1 (.malformed [])) small [(false, .badLength)] (some .badLength) = true := by decide +kernel

theorem test_format : (after (.format 1 (.ops ⟨3⟩)) small).dtg.stagedFormat = .f3 ∧
    lastPayload (after (.format 1 (.ops ⟨4⟩)) small) = [0x81, 1, 3, 0] := by decide +kernel

theorem test_mode_wakes :
    let t := after (.mode 1 (.ops ⟨0, 9, 3, 1, 0⟩)) { small with dtg := { small.dtg with power := .asleep } }
    t.dtg.power = .awake ∧ t.dtg.stagedColour = .reduced ∧ lastPayload t = [0x82, 1, 0, 0, 0] := by decide +kernel

theorem test_meets_ScreenStyleFontAreaWrite :
    meets (.screen 1 (.ops ⟨63, 255, [0x20, 0x7E]⟩)) small (screenChecks ⟨63, 255, [0x20, 0x7E]⟩) none = true ∧
    meets (.screen 1 (.ops ⟨0, 0, [0x7F]⟩)) small (screenChecks ⟨0, 0, [0x7F]⟩) (some .badValue) = true ∧
    meets (.style 1 (.ops ⟨15, 63, 0, 1, 2, 3, 60, 1, 0, 1, 0⟩)) small
      (styleChecks ⟨15, 63, 0, 1, 2, 3, 60, 1, 0, 1, 0⟩) none = true ∧
    meets (.style 1 (.ops ⟨15, 63, 0, 1, 2, 3, 61, 1, 0, 1, 0⟩)) small
      (styleChecks ⟨15, 63, 0, 1, 2, 3, 61, 1, 0, 1, 0⟩) (some .badValue) = true ∧
    meets (.fontarea 1 (.ops ⟨3, 1, 0xFFFF, 0xFF, 3, 255⟩)) small (fontareaChecks ⟨3, 1, 0xFFFF, 0xFF, 3, 255⟩) none
      = true ∧
    meets (.fontarea 1 (.ops ⟨4, 1, 0, 0, 3, 255⟩)) small (fontareaChecks ⟨4, 1, 0, 0, 3, 255⟩) (some .badValue)
      = true := by decide +kernel

theorem test_screen : (after (.screen 1 (.ops ⟨63, 255, [0x41]⟩)) small).gcu.banner = [0x41] := by decide +kernel

theorem test_style :
    (after (.style 1 (.ops ⟨15, 63, 0, 1, 2, 3, 60, 1, 0, 1, 0⟩)) small).style 15 =
      ⟨63, 0, 1, 2, 3, 60, true, ⟨false, true, false⟩⟩ := by decide +kernel

/-- The first area of 8.8's kind: codes 0x20A0 to 0x20AF name glyphs of bank 2 from 0x40 on. -/
theorem test_fontarea :
    (after (.fontarea 1 (.ops ⟨0, 1, 0x20A0, 0x000F, 2, 0x40⟩)) small).glyphOf 0x20AC = .ram 2 0x4C := by
  decide +kernel

/-- Each case of R146: code 0, the lowest area that matches, an index beyond 255, and codes that no area matches. -/
theorem test_glyphs_of_codes :
    let s := { small with gcu := { small.gcu with
      areas := [(0, ⟨false, 0x20A0, 0xFFFF, 3, 0⟩), (1, ⟨true, 0x20A0, 0x000F, 2, 0x40⟩),
        (2, ⟨true, 0x2000, 0x00FF, 1, 0xF0⟩)] } }
    s.glyphOf 0 = .blank ∧ s.glyphOf 0x20AC = .ram 2 0x4C ∧ s.glyphOf 0x200F = .ram 1 0xFF ∧
      s.glyphOf 0x2010 = .rom 0x7F ∧ s.glyphOf 0x41 = .rom 0x41 ∧ s.glyphOf 0x100 = .rom 0x7F := by decide +kernel

theorem test_meets_PaletteAndGlyphsLoad :
    meets (.palette 1 (.ops ⟨63, [⟨1, 2, 3⟩]⟩)) small (paletteChecks ⟨63, [⟨1, 2, 3⟩]⟩) none = true ∧
    meets (.palette 1 (.ops ⟨63, [⟨1, 2, 3⟩, ⟨1, 2, 3⟩]⟩)) small (paletteChecks ⟨63, [⟨1, 2, 3⟩, ⟨1, 2, 3⟩]⟩)
      (some .range) = true ∧
    (∀ g ∈ [List.replicate 20 (0x8010 : U16)], g.length = 20) ∧
    meets (.glyphs 1 (.ops ⟨3, 255, [List.replicate 20 0x8010]⟩)) small
      (glyphsChecks ⟨3, 255, [List.replicate 20 0x8010]⟩ small) none = true ∧
    meets (.glyphs 1 (.ops ⟨0, 255, [List.replicate 20 0x8010]⟩)) small
      (glyphsChecks ⟨0, 255, [List.replicate 20 0x8010]⟩ small) (some .badValue) = true := by decide +kernel

theorem test_palette : (after (.palette 1 (.ops ⟨63, [⟨1, 2, 3⟩]⟩)) small).colour 63 = ⟨1, 2, 3⟩ := by decide +kernel

/-- Bit 15 is pixel column 0 and bit 4 pixel column 11 (R184). -/
theorem test_glyphs :
    let t := after (.glyphs 1 (.ops ⟨3, 255, [List.replicate 20 0x8010]⟩)) small
    (List.range 13).filter (t.glyphPixel .f3 (.ram 3 255) 19) = [0, 11] ∧ t.glyphRow 3 254 19 = 0 := by
  decide +kernel

theorem test_meets_PageDefinesUnpageRemoves :
    meets (.page 1 (.ops ⟨15, 220, 2, 10⟩)) small (pageChecks ⟨15, 220, 2, 10⟩ small) none = true ∧
    meets (.page 1 (.ops ⟨15, 219, 2, 10⟩)) small (pageChecks ⟨15, 219, 2, 10⟩ small) (some .overlap) = true ∧
    meets (.page 1 (.ops ⟨0, 219, 2, 10⟩)) small (pageChecks ⟨0, 219, 2, 10⟩ small) (some .inUse) = true ∧
    meets (.unpage 1 (.ops ⟨0⟩)) { small with itb := .reset } (unpageChecks ⟨0⟩ { small with itb := .reset }) none
      = true ∧
    meets (.unpage 1 (.ops ⟨0⟩)) small (unpageChecks ⟨0⟩ small) (some .inUse) = true ∧
    meets (.unpage 1 (.ops ⟨1⟩)) small (unpageChecks ⟨1⟩ small) (some .noPage) = true := by decide +kernel

theorem test_page : (after (.page 1 (.ops ⟨15, 220, 2, 10⟩)) small).page 15 = some ⟨220, 2, 10⟩ := by decide +kernel

theorem test_unpage : (after (.unpage 1 (.ops ⟨0⟩)) { small with itb := .reset }).page 0 = none := by decide +kernel

theorem test_meets_TextAndFillWrite :
    meets (.text 1 (.ops ⟨0, 3, 28, 1, 2, 7, [0x41, 0x42]⟩)) small (textChecks ⟨0, 3, 28, 1, 2, 7, [0x41, 0x42]⟩ small)
      none = true ∧
    meets (.text 1 (.ops ⟨0, 3, 29, 1, 2, 7, [0x41, 0x42]⟩)) small (textChecks ⟨0, 3, 29, 1, 2, 7, [0x41, 0x42]⟩ small)
      (some .range) = true ∧
    meets (.fill 1 (.ops ⟨0, 2, 20, 2, 10, 0x41, 1, 2, 0⟩)) small (fillChecks ⟨0, 2, 20, 2, 10, 0x41, 1, 2, 0⟩ small)
      none = true ∧
    meets (.fill 1 (.ops ⟨0, 2, 20, 3, 10, 0x41, 1, 2, 0⟩)) small (fillChecks ⟨0, 2, 20, 3, 10, 0x41, 1, 2, 0⟩ small)
      (some .range) = true := by decide +kernel

theorem test_text :
    let t := after (.text 1 (.ops ⟨0, 3, 28, 1, 2, 5, [0x41, 0x42]⟩)) small
    t.cell 219 = ⟨0x42, 1, 2, ⟨true, false, true⟩, none, false⟩ ∧ t.cst.cells.length = 2 := by decide +kernel

theorem test_fill : ((after (.fill 1 (.ops ⟨0, 2, 20, 2, 2, 0x41, 1, 2, 0⟩)) small).cst.cells.map (·.1)) =
    [180, 181, 210, 211] := by decide +kernel

theorem test_meets_QcellsAndQslotRead :
    meets (.qcells 1 (.ops ⟨0, 3, 0, 30⟩)) small (qcellsChecks ⟨0, 3, 0, 30⟩ small) none = true ∧
    meets (.qcells 1 (.ops ⟨0, 3, 1, 30⟩)) small (qcellsChecks ⟨0, 3, 1, 30⟩ small) (some .range) = true ∧
    meets (.qslot 1 (.ops ⟨255⟩)) small [] none = true := by decide +kernel

/-- A reset cell: space, 7, 0, no flags, no reference, no stale mark (R1, R185). -/
theorem test_qcells : lastPayload (after (.qcells 1 (.ops ⟨0, 0, 0, 1⟩)) small) =
    [0x94, 1, 0, 0, 0, 0x20, 7, 0, 0, 0xFF, 0] := by decide +kernel

/-- A QSLOT body has 101 + n + 4p bytes (R185). -/
theorem test_qslot : (lastPayload (after (.qslot 1 (.ops ⟨5⟩)) small)).length = 4 + 101 + 3 + 4 := by decide +kernel

/-! ## Composition -/

theorem test_meets_PaneScrollClipStage :
    meets (.pane 1 (.ops ⟨7, 0, 0, 127, 199, 63, 159, 64, 160, 7, 2, 2, 1⟩)) small
      (paneChecks ⟨7, 0, 0, 127, 199, 63, 159, 64, 160, 7, 2, 2, 1⟩ small) none = true ∧
    meets (.pane 1 (.ops ⟨7, 0, 0xFF, 0, 0, 0, 0, 1, 1, 1, 0, 0, 0⟩)) small
      (paneChecks ⟨7, 0, 0xFF, 0, 0, 0, 0, 1, 1, 1, 0, 0, 0⟩ small) (some .badValue) = true ∧
    meets (.pane 1 (.ops ⟨7, 1, 9, 0, 0, 0, 0, 2, 1, 1, 0, 0, 0⟩)) small
      (paneChecks ⟨7, 1, 9, 0, 0, 0, 0, 2, 1, 1, 0, 0, 0⟩ small) (some .range) = true ∧
    meets (.scroll 1 (.ops ⟨7, 127, 199⟩)) small (scrollChecks ⟨7, 127, 199⟩ small) none = true ∧
    meets (.scroll 1 (.ops ⟨8, 0, 0⟩)) small (scrollChecks ⟨8, 0, 0⟩ small) (some .badValue) = true ∧
    meets (.clip 1 (.ops ⟨1, 63, 159, 64, 160⟩)) small (clipChecks ⟨1, 63, 159, 64, 160⟩) none = true ∧
    meets (.clip 1 (.ops ⟨2, 0, 0, 0, 0⟩)) small (clipChecks ⟨2, 0, 0, 0, 0⟩) (some .badValue) = true := by
  decide +kernel

theorem test_pane :
    let t := after (.pane 1 (.ops ⟨7, 0, 0, 1, 2, 3, 4, 5, 6, 7, 1, 2, 1⟩)) small
    t.sco.staged.pane 7 = ⟨.page, some 0, 1, 2, 3, 4, 5, 6, 7, .inside, .outside, .and⟩ ∧ t.sco.bannerEnd = true := by
  decide +kernel

theorem test_scroll : ((after (.scroll 1 (.ops ⟨7, 5, 6⟩)) small).sco.staged.pane 7).srcCol = 6 := by decide +kernel

theorem test_clip : (after (.clip 1 (.ops ⟨1, 1, 2, 3, 4⟩)) small).sco.staged.w1 = ⟨1, 2, 3, 4⟩ := by decide +kernel

theorem test_meets_CrawlRequests :
    meets (.crawl 1 (.ops ⟨63, 0, [0x41]⟩)) small (crawlChecks ⟨63, 0, [0x41]⟩ small) none = true ∧
    meets (.crawl 1 (.ops ⟨63, 0, []⟩)) small (crawlChecks ⟨63, 0, []⟩ small) (some .badValue) = true ∧
    meets (.crawl 1 (.ops ⟨63, 0, [0x41]⟩)) { small with sco := { small.sco with ring := List.replicate 1024 ⟨0, 0, 0⟩ } }
      (crawlChecks ⟨63, 0, [0x41]⟩ { small with sco := { small.sco with ring := List.replicate 1024 ⟨0, 0, 0⟩ } })
      (some .full) = true ∧
    meets (.crawlctl 1 (.ops ⟨8, 63, 1⟩)) small (crawlctlChecks ⟨8, 63, 1⟩) none = true ∧
    meets (.crawlctl 1 (.ops ⟨9, 63, 1⟩)) small (crawlctlChecks ⟨9, 63, 1⟩) (some .badValue) = true := by
  decide +kernel

theorem test_crawl : lastPayload (after (.crawl 1 (.ops ⟨63, 0, [0x41, 0x42]⟩)) small) = [0x9B, 1, 0, 0, 0, 2] := by
  decide +kernel

/-- R138, rows 1 to 3, with a crawl pane of 20 cols and a step due: text put into the empty ring at lead 0 stands at the
left; had the step come first, the lead reloads; text behind one character follows it. -/
theorem test_crawl_races :
    let pane : Pane := { Pane.hidden with kind := .crawl, cols := 20, priority := 1 }
    let c : Sco := { Sco.reset with active := ⟨[(6, pane)], .empty, .empty⟩, offset := 4, speed := 4 }
    let x : CrawlChar := ⟨0x41, 1, 2⟩
    let y : CrawlChar := ⟨0x42, 1, 2⟩
    (c.append [x]).advance 8 = { c with ring := [x], offset := 0 } ∧
    c.advance 8 = { c with lead := 20, offset := 0 } ∧
    (({ c with ring := [x] } : Sco).append [y]).advance 8 = { c with ring := [y], offset := 0 } := by decide +kernel

theorem test_crawlctl : (after (.crawlctl 1 (.ops ⟨8, 63, 1⟩)) small).sco.speed = 8 := by decide +kernel

/-- A screen cell no pane covers shows the back colour, and a pane of priority 1 wins over none (R129). -/
theorem test_winner :
    let k : Composition := ⟨[(2, { Pane.hidden with page := some 0, priority := 1 })], .empty, .empty⟩
    k.winner 0 0 = some (k.pane 2) ∧ k.winner 0 1 = none := by decide +kernel

/-- The small machine in SCAN showing panes, in the band of rows 0 to 9: pane 2 shows row 3 of page 0 on, pane 3 the
crawl. -/
def showing : State :=
  { scanning with
    dtg := { scanning.dtg with activeArea := .band 0 9 }
    sco := { scanning.sco with
      display := .panes, ring := [⟨0x41, 1, 2⟩], lead := 1
      active := ⟨[(2, { Pane.hidden with page := some 0, srcRow := 3, rows := 2, priority := 1 }),
        (3, { Pane.hidden with kind := .crawl, scrRow := 5, cols := 4, priority := 1, w0 := .inside })], .empty, .empty⟩ } }

/-- Each case of HighestCandidateWins: a cell outside the band, one with no winner, a page cell, a position beyond the
page, the crawl, and in BANNER the first cell of the 13 characters under F1 (R132: row 24, col 57). -/
theorem test_meets_HighestCandidateWins :
    showing.shown 10 0 = .back ∧ showing.sco.active.winner 9 0 = none ∧
    showing.sco.active.winner 0 0 = some (showing.sco.active.pane 2) ∧ showing.shown 0 0 = .cell 190 ∧
    showing.sco.active.winner 1 0 = some (showing.sco.active.pane 2) ∧ showing.shown 1 0 = .back ∧
    showing.sco.active.winner 5 2 = some (showing.sco.active.pane 3) ∧ showing.shown 5 2 = .crawl 16 ∧
    ¬ isCut showing.sco.active (showing.sco.active.pane 3) 5 2 ∧
    scanning.sco.display = .banner ∧ scanning.dtg.activeArea = .full ∧ scanning.shown 24 57 = .banner 0x41 ∧
    24 < scanning.dtg.activeFormat.gridRows ∧ 57 < scanning.dtg.activeFormat.gridCols := by
  unfold isCut cuts inWindow
  decide +kernel

/-! ## Instruments, layouts, placements -/

theorem test_meets_DefineSetsSlot :
    meets (.define 1 (.ops ⟨255, [0x44], 1, 8, 15, 0⟩)) small (defineChecks ⟨255, [0x44], 1, 8, 15, 0⟩ small) none
      = true ∧
    meets (.define 1 (.ops ⟨255, [0x44], 1, 9, 15, 0⟩)) small (defineChecks ⟨255, [0x44], 1, 9, 15, 0⟩ small)
      (some .badValue) = true ∧
    meets (.define 1 (.ops ⟨5, [0x44], 0, 6, 0, 0⟩)) small (defineChecks ⟨5, [0x44], 0, 6, 0, 0⟩ small) (some .inUse)
      = true ∧
    meets (.define 1 (.ops ⟨6, [0x41, 0x42, 0x43], 2, 99, 0, 0⟩)) small
      (defineChecks ⟨6, [0x41, 0x42, 0x43], 2, 99, 0, 0⟩ small) (some .duplicate) = true := by decide +kernel

theorem test_define :
    let r := (after (.define 1 (.ops ⟨255, [0x44], 1, 8, 15, 7⟩)) small).slot 255
    r.state = .quiet ∧ r.scale = some (.frac 8) ∧ r.flashStyle = 15 ∧ r.stale = 7 := by decide +kernel

theorem test_meets_DropEmptiesSlot :
    Table.wf none alarmed.fau.flash = true ∧ Table.wf .blank alarmed.cst.cells = true ∧
    meets (.drop 1 (.ops ⟨5⟩)) alarmed [(decide ((alarmed.slot 5).state ≠ .free), .noSlot)] none = true ∧
    meets (.drop 1 (.ops ⟨6⟩)) alarmed [(decide ((alarmed.slot 6).state ≠ .free), .noSlot)] (some .noSlot) = true := by
  decide +kernel

/-- One pending entry and one alert go with the slot (R23, R24). -/
theorem test_drop :
    let t := after (.drop 1 (.ops ⟨5⟩)) alarmed
    lastPayload t = [0xA1, 1, 0, 0, 1, 1] ∧ t.itb.slots = [] ∧ t.upq.dirty = [] ∧ t.fau = ⟨[], [], []⟩ := by
  decide +kernel

theorem test_meets_LayoutDefines :
    meets (.layout 1 (.ops ⟨15, [⟨10, 188, 12, 0, 15, 0, 0, 0⟩]⟩)) small
      (layoutChecks ⟨15, [⟨10, 188, 12, 0, 15, 0, 0, 0⟩]⟩ small) none = true ∧
    meets (.layout 1 (.ops ⟨15, [⟨10, 188, 13, 0, 15, 0, 0, 0⟩]⟩)) small
      (layoutChecks ⟨15, [⟨10, 188, 13, 0, 15, 0, 0, 0⟩]⟩ small) (some .badValue) = true ∧
    meets (.layout 1 (.ops ⟨15, [⟨0, 0, 4, 0, 0, 0, 0, 0⟩, ⟨1, 3, 4, 0, 0, 0, 0, 0⟩]⟩)) small
      (layoutChecks ⟨15, [⟨0, 0, 4, 0, 0, 0, 0, 0⟩, ⟨1, 3, 4, 0, 0, 0, 0, 0⟩]⟩ small) (some .overlap) = true := by
  decide +kernel

theorem test_layout :
    lastPayload (after (.layout 1 (.ops ⟨15, [⟨10, 188, 12, 0, 15, 0, 0, 0⟩]⟩)) small) = [0xA2, 1, 0, 0, 200] := by
  decide +kernel

theorem test_meets_PlaceAppendsAndPaints :
    Table.wf none flashing.fau.flash = true ∧ flashing.layoutLaw ∧
    meets (.place 1 (.ops ⟨5, 0, 3, 22, 2⟩)) flashing (placeChecks ⟨5, 0, 3, 22, 2⟩ flashing) none = true ∧
    meets (.place 1 (.ops ⟨5, 0, 3, 23, 2⟩)) flashing (placeChecks ⟨5, 0, 3, 23, 2⟩ flashing) (some .range) = true ∧
    meets (.place 1 (.ops ⟨5, 0, 3, 22, 3⟩)) flashing (placeChecks ⟨5, 0, 3, 22, 3⟩ flashing) (some .noLayout)
      = true := by
  refine ⟨by decide +kernel, ⟨by decide +kernel, ?_⟩, by decide +kernel, by decide +kernel, by decide +kernel⟩
  unfold Column.law
  decide +kernel

/-- The new placement shows " 100.00" of the committed LAST, and its span joins the flash entry (R33, R102). -/
theorem test_place :
    let t := after (.place 1 (.ops ⟨5, 0, 3, 22, 2⟩)) flashing
    ((List.range 6).map fun j => (t.cell (212 + j)).code.toNat) = [49, 48, 48, 46, 48, 48] ∧
    (t.cell 212).ref = some 0 ∧ (t.flashEntry 0).map (·.spans) = some [⟨0, 132, 6⟩, ⟨0, 212, 6⟩] := by decide +kernel

theorem test_meets_UnplaceRemoves :
    Table.wf none flashing.fau.flash = true ∧
    (∀ i x, flashing.flashEntry i = some x → x.spans = flashing.spansOf x.slot x.field) ∧
    meets (.unplace 1 (.ops ⟨5, 0⟩)) flashing (unplaceChecks ⟨5, 0⟩ flashing) none = true ∧
    meets (.unplace 1 (.ops ⟨5, 1⟩)) flashing (unplaceChecks ⟨5, 1⟩ flashing) (some .range) = true := by
  refine ⟨by decide +kernel, ?_, by decide +kernel, by decide +kernel⟩
  intro i x h
  by_cases hi : i = 0
  · subst hi
    obtain rfl : (⟨5, .last, .moving .up 30 2 1, 10, [⟨0, 132, 6⟩]⟩ : FlashEntry) = x := by
      simpa [State.flashEntry, flashing, Table.get] using h
    decide +kernel
  · have hi' : ¬ (0 = i) := fun e => hi e.symm
    simp [State.flashEntry, flashing, Table.get, hi'] at h

theorem test_unplace :
    let t := after (.unplace 1 (.ops ⟨5, 0⟩)) flashing
    (t.slot 5).placements = [] ∧ (t.flashEntry 0).map (·.spans) = some [] := by decide +kernel

/-! ## Quotes, limits, alerts -/

/-- A POST whose checks pass, one that fails one, and one that finds the pool too small. -/
theorem test_meets_PostQueuesOrIsRefused :
    meets (.post 1 (.ops ⟨5, [⟨2, 7⟩, ⟨3, 4294967295⟩]⟩)) small (postChecks ⟨5, [⟨2, 7⟩, ⟨3, 4294967295⟩]⟩ small) none
      = true ∧
    meets (.post 1 (.ops ⟨5, [⟨3, 4294967296⟩]⟩)) small (postChecks ⟨5, [⟨3, 4294967296⟩]⟩ small) (some .badValue)
      = true ∧
    newPairs ⟨5, [⟨2, 7⟩, ⟨3, 9⟩]⟩ small = 1 ∧
    (let s := { small with upq := { small.upq with pool := (List.range 512).map fun k => (100 + k, some 1) } }
     meets (.post 1 (.ops ⟨5, [⟨2, 7⟩]⟩)) s (postChecks ⟨5, [⟨2, 7⟩]⟩ s) none = true ∧
       512 - s.upq.pool.length < newPairs ⟨5, [⟨2, 7⟩]⟩ s) ∧
    small.canTake ⟨0x25, 1, [6, 1]⟩ = true := by decide +kernel

theorem test_post :
    let t := after (.post 1 (.ops ⟨5, [⟨2, 7⟩, ⟨3, 9⟩]⟩)) small
    lastPayload t = [0xA5, 1, 0, 0, 1] ∧ t.upq.pool = [(42, some 7), (43, some 9)] ∧ t.upq.dirty = [5] ∧
      (t.slot 5).conflation = 1 := by decide +kernel

/-- A short body that names a FREE slot is refused with NO_SLOT, and one without a pair count with BAD_LENGTH (R40). -/
theorem test_post_wrong_length :
    lastPayload (after (.post 1 (.malformed [6, 1])) small) = [0xA5, 1, 4, 0] ∧
    lastPayload (after (.post 1 (.malformed [6])) small) = [0xA5, 1, 2, 0] := by decide +kernel

theorem test_meets_LimitArms :
    Table.wf .empty small.itb.slots = true ∧
    meets (.limit 1 (.ops ⟨5, 1, 0, some (-1)⟩)) small (limitChecks ⟨5, 1, 0, some (-1)⟩ small .low) none = true ∧
    meets (.limit 1 (.ops ⟨5, 0, 1, none⟩)) small (limitChecks ⟨5, 0, 1, none⟩ small .high) none = true ∧
    meets (.limit 1 (.ops ⟨5, 0, 1, none⟩)) alarmed (limitChecks ⟨5, 0, 1, none⟩ alarmed .high) (some .fired) = true ∧
    meets (.limit 1 (.ops ⟨5, 0, 1, some 3⟩)) small (limitChecks ⟨5, 0, 1, some 3⟩ small .high) (some .badLength)
      = true := by decide +kernel

theorem test_limit :
    let t := after (.limit 1 (.ops ⟨5, 1, 0, some (-1)⟩)) small
    (t.slot 5).low = .armed (-1) ∧ lastPayload t = [0xA6, 1, 0, 0, 1, 2] := by decide +kernel

theorem alarmed_canonical : alarmed.canonical := by
  unfold State.canonical Slot.canonical Profile.canonical
  decide +kernel

theorem alarmed_alertLaw : alarmed.alertLaw := by
  unfold State.alertLaw
  decide +kernel

theorem alarmed_flashLaw : alarmed.flashLaw := by
  refine ⟨by decide +kernel, ?_, ?_, ?_, by decide +kernel, by decide +kernel, by decide +kernel⟩
  · intro e he
    obtain rfl : e = (0, some ⟨5, .last, .alert, 14, [⟨0, 132, 6⟩]⟩) := by simpa [alarmed] using he
    refine ⟨by decide, fun x hx => ?_⟩
    obtain rfl : (⟨5, .last, .alert, 14, [⟨0, 132, 6⟩]⟩ : FlashEntry) = x := by simpa using hx
    refine ⟨by decide +kernel, by decide +kernel, by decide +kernel, ?_⟩
    show _ ∧ _
    decide +kernel
  · simp [alarmed]
  · intro a ha
    obtain rfl : a = ⟨5, .high, 10200, 10250, 2⟩ := by simpa [alarmed] using ha
    exact ⟨(0, some ⟨5, .last, .alert, 14, [⟨0, 132, 6⟩]⟩), by decide +kernel, _, rfl, rfl, rfl⟩

theorem test_meets_AckAcknowledges :
    alarmed.canonical ∧ alarmed.flashLaw ∧
    meets (.ack 1 (.ops ⟨5, 0⟩)) alarmed
      [(decide ((0 : Byte).toNat ≤ 1), .badValue), (decide ((alarmed.slot 5).state ≠ .free), .noSlot),
       (((alarmed.slot 5).limit (sideOf 0)).isFired, .notFired)] none = true ∧
    meets (.ack 1 (.ops ⟨5, 1⟩)) alarmed
      [(decide ((1 : Byte).toNat ≤ 1), .badValue), (decide ((alarmed.slot 5).state ≠ .free), .noSlot),
       (((alarmed.slot 5).limit (sideOf 1)).isFired, .notFired)] (some .notFired) = true :=
  ⟨alarmed_canonical, alarmed_flashLaw, by decide +kernel, by decide +kernel⟩

theorem test_ack :
    let t := after (.ack 1 (.ops ⟨5, 0⟩)) alarmed
    lastPayload t = [0xA7, 1, 0, 0, 0] ∧ (t.slot 5).high = .disarmed ∧ t.fau = ⟨[], [], []⟩ := by decide +kernel

/-! ## Hold, notices, status, lines, profile store, resets -/

theorem test_meets_HoldAndNoteSet :
    meets (.hold 1 (.ops ⟨1⟩)) small [(decide ((1 : Byte).toNat ≤ 1), .badValue)] none = true ∧
    meets (.hold 1 (.ops ⟨2⟩)) small [(decide ((2 : Byte).toNat ≤ 1), .badValue)] (some .badValue) = true ∧
    meets (.note 1 (.ops ⟨7⟩)) small [(decide ((7 : Byte).toNat ≤ 7), .badValue)] none = true ∧
    meets (.note 1 (.ops ⟨8⟩)) small [(decide ((8 : Byte).toNat ≤ 7), .badValue)] (some .badValue) = true := by
  decide +kernel

/-- The reply shows the hold that it set: flags bit 3 (R177, R184). -/
theorem test_hold : lastPayload (after (.hold 1 (.ops ⟨1⟩)) small) = [0xA8, 1, 0, 8, 1, 0] := by decide +kernel

theorem test_note : (after (.note 1 (.ops ⟨6⟩)) small).fli.mask = ⟨false, true, true⟩ := by decide +kernel

theorem test_meets_StatusAndIdentRead :
    meets (.status 1 (.ops ⟨⟩)) small [] none = true ∧ meets (.ident 1 (.ops ⟨⟩)) small [] none = true ∧
    meets (.ident 1 (.malformed [0])) small [(false, .badLength)] (some .badLength) = true := by decide +kernel

/-- A STATUS body has 28 bytes (R185). -/
theorem test_status : (lastPayload (after (.status 1 (.ops ⟨⟩)) small)).length = 32 := by decide +kernel

theorem test_ident :
    lastPayload (after (.ident 1 (.ops ⟨⟩)) small) = [0xB1, 1, 0, 0, 0x5A, 0x02, 0xC6, 1, 0, 0, 3] := by decide +kernel

theorem test_meets_LinesSetFunctions :
    meets (.lines 1 (.ops ⟨0, 1, 2, 5⟩)) small [(true, .badValue)] none = true ∧
    meets (.lines 1 (.ops ⟨0, 1, 2, 6⟩)) small [(decide ((6 : Byte).toNat ≤ 5), .badValue)] (some .badValue)
      = true := by decide +kernel

theorem test_lines :
    lastPayload (after (.lines 1 (.ops ⟨0, 1, 3, 4⟩)) alarmed) =
      [0xB3, 1, 0, 0x10, 0, 1, 0, 0, 1, 1, 0, 0, 3, 0, 0, 0, 4, 0, 0, 0] := by decide +kernel

/-- The small machine with a SAVE of tag 9 being programmed into generation 1. -/
def saving : State :=
  { small with
    fli := { small.fli with reserved := 1 }
    pst := ⟨[(1, ⟨true, none⟩)], some ⟨1, 9, .factory⟩, 0⟩ }

theorem test_meets_SaveClaimsAndCompletes :
    meets (.save 9 (.ops ⟨⟩)) small
      [(small.pst.programming.isNone, .busy), ([1, 2, 3, 4].any fun g => !(small.gen g).claimed, .storeFull)] none
      = true ∧
    meets (.save 9 (.ops ⟨⟩)) saving
      [(saving.pst.programming.isNone, .busy), ([1, 2, 3, 4].any fun g => !(saving.gen g).claimed, .storeFull)]
      (some .busy) = true ∧
    saving.pst.programming = some ⟨1, 9, .factory⟩ ∧ small.pst.programming = none := by decide +kernel

theorem test_save : (after (.save 9 (.ops ⟨⟩)) small).fli.outQ = [] ∧
    (after (.save 9 (.ops ⟨⟩)) small).gen 1 = ⟨true, none⟩ := by decide +kernel

theorem test_saveCompletion :
    let t := after .saveCompletion saving
    lastPayload t = [0xB4, 9, 0, 0, 1] ∧ (t.gen 1).done = some .factory ∧ t.fli.reserved = 0 := by decide +kernel

theorem test_meets_ResetsSetEverything :
    Table.wf .idle saving.lnu.lines = true ∧ meets (.reset 1 (.ops ⟨⟩)) saving [] none = true ∧
    Loads saving 0 .factory := by
  refine ⟨by decide +kernel, by decide +kernel, .inr ⟨rfl, by decide +kernel, rfl⟩⟩

theorem test_powerOnReset : after .powerOnReset small = State.reset := by decide +kernel

theorem test_hardReset : (after .hardReset saving).pst = ⟨[(1, ⟨true, none⟩)], none, 0⟩ := by decide +kernel

theorem test_reset :
    let t := after (.reset 1 (.ops ⟨⟩)) saving
    lastPayload t = [0xBF, 1, 0, 0] ∧ t.pst.programming.isSome = true ∧ t.fli.rdyStart = .following := by decide +kernel

theorem test_rdyRise :
    let s := { small with fli := { small.fli with rdyStart := .timing } }
    s.rdy = .low ∧ (after .rdyRise s).rdy = .high := by decide +kernel

/-- A kind of 0x40 or more is answered with kind 0xFF, one below with 0x80 added (R176). -/
theorem test_unknownKind :
    lastPayload (after (.unknownKind 0x40 1 []) small) = [0xFF, 1, 1, 0] ∧
    lastPayload (after (.unknownKind 0x2F 1 []) small) = [0xAF, 1, 1, 0] := by decide +kernel

/-! ## Display events and the commit -/

theorem test_meets_frame_starts :
    atFrameEnd scanning ∧ scanning.dtg.stagedPower = .awake ∧ scanning.held = false ∧
    (scanning.upq.mark = true → scanning.upq.clean = 0) ∧ scanning.sco.speed ≤ 8 ∧
    scanning.sco.offset < scanning.dtg.activeFormat.cellW ∧
    atFrameEnd holding ∧ holding.dtg.stagedPower = .awake ∧ holding.held = true ∧ atFrameEnd State.reset := by
  unfold atFrameEnd
  decide +kernel

/-- A sleeping generator, as FlashesDecay, SlotsAge and FrameStartCountsAndBeginsCommit suppose it. -/
theorem test_meets_asleep :
    let s := { small with dtg := { small.dtg with power := .asleep } }
    s.dtg.power = .asleep ∧ (after .frameStart s).dtg.counter = s.dtg.counter := by decide +kernel

theorem test_meets_sleep :
    let s := { scanning with dtg := { scanning.dtg with stagedPower := .asleep } }
    atFrameEnd s ∧ s.dtg.stagedPower = .asleep ∧ ¬ atFrameEnd small ∧ small.dtg.stagedPower = .awake ∧
      ¬ (scanning.dtg.power = .awake ∧ scanning.dtg.phase = .blank ∧ scanning.dtg.restart = false) ∧
      scanning.cme.state = .idle := by
  unfold atFrameEnd
  decide +kernel

theorem scanning_canonical : scanning.canonical := by
  unfold State.canonical Slot.canonical Profile.canonical
  decide +kernel

theorem flashing_canonical : flashing.canonical := by
  unfold State.canonical Slot.canonical Profile.canonical
  decide +kernel

theorem small_canonical : small.canonical := by
  unfold State.canonical Slot.canonical Profile.canonical
  decide +kernel

/-- FlashesDecay and SlotsAge need a canonical state at an unheld frame end: here one with a flash, and a slot that is
one frame off its stale interval, with a cell of its LAST column and one beside it. -/
theorem test_meets_decay_and_ageing :
    flashing.canonical ∧ atFrameEnd flashing ∧ flashing.dtg.stagedPower = .awake ∧ flashing.held = false ∧
    scanning.canonical ∧ (lastColumn flashing (flashing.slot 5).placements 137).map (·.1) = some 132 ∧
    lastColumn flashing (flashing.slot 5).placements 138 = none := by
  refine ⟨flashing_canonical, ?_, by decide +kernel, by decide +kernel, scanning_canonical, by decide +kernel,
    by decide +kernel⟩
  unfold atFrameEnd
  decide +kernel

theorem test_frameStart :
    let t := after .frameStart flashing
    t.dtg.counter = 3 ∧ t.cme = ⟨.committing, 3, 192, 0, 0, false, false⟩ ∧ t.upq.clean = 1 ∧ (t.slot 5).age = 3 ∧
      (t.slot 5).state = .stale ∧ (t.cell 132).stale = true ∧
      (t.flashEntry 0).map (·.kind) = some (.moving .up 30 1 1) := by decide +kernel

/-- A held frame start ages nothing and lets no flash decay (R57). -/
theorem test_frameStart_held :
    let t := after .frameStart holding
    t.cme.state = .idle ∧ t.cme.frame = 3 ∧ t.itb = holding.itb := by decide +kernel

theorem test_scanStart : (after .scanStart small).dtg.phase = .scan ∧ (after .scanStart small).cme.state = .idle ∧
    small.dtg.power = .awake ∧ small.dtg.phase = .blank ∧ small.dtg.restart = false := by decide +kernel

theorem test_sleepEntry :
    (after .sleepEntry { scanning with dtg := { scanning.dtg with stagedPower := .asleep } }).dtg.power = .asleep := by
  decide +kernel

/-- A running commit with nothing waiting, and one whose budget is too small for the head. -/
theorem test_meets_CommitStepEnds :
    let s := { small with upq := .reset }
    let u := { small with cme := { small.cme with budget := 0 } }
    s.cme.state = .committing ∧ s.upq.dirty.head? = none ∧
      u.cme.state = .committing ∧ u.upq.dirty.head? = some 5 ∧ u.cme.budget < waiting u 5 := by decide +kernel

theorem small_alertLaw : small.alertLaw := by
  unfold State.alertLaw
  decide +kernel

theorem small_flashLaw : small.flashLaw := by
  unfold State.flashLaw
  refine ⟨by decide +kernel, ?_, ?_, ?_, by decide +kernel, by decide +kernel, by decide +kernel⟩ <;>
    simp [small, State.reset, Fau.reset]

/-- The takes of the statements TakeStoresValues, TakeFiresLimits, TakeStartsFlashes and TakeRepaints: slot 5 with a
LAST that moves and reaches its limit. -/
theorem test_meets_takes :
    Taking small 5 ∧ small.canonical ∧ small.alertLaw ∧ small.flashLaw ∧ Table.wf .blank small.cst.cells = true ∧
    firing (small.slot 5) 10250 = [(.high, 10200)] ∧ moveOf small 5 .last = some .up := by
  refine ⟨?_, small_canonical, small_alertLaw, small_flashLaw, by decide +kernel, by decide +kernel, by decide +kernel⟩
  unfold Taking
  decide +kernel

/-- LAST 10,250 reaches 10,200: the limit fires, the alert waits with value 10,250, LAST flashes ALERT in colour 14,
and the placement shows "102.50" with the reference (R62 to R65, R113). -/
theorem test_commitStep :
    let t := after .commitStep small
    (t.slot 5).value .last = some 10250 ∧ ((t.slot 5).move .last) = ⟨.up, some 10000⟩ ∧
      (t.slot 5).high = .fired 10200 ∧ t.fau.alerts = [⟨5, .high, 10200, 10250, 2⟩] ∧
      (t.flashEntry 0).map (·.colour) = some 14 ∧ (t.cell 132).ref = some 0 ∧
      ((List.range 6).map fun j => (t.cell (132 + j)).code.toNat) = [49, 48, 50, 46, 53, 48] := by decide +kernel

theorem test_commitStep_ends : (after .commitStep { small with upq := .reset }).cme.state = .idle := by decide +kernel

/-! ## The feed link and the lines -/

theorem test_meets_RequestWaitsOrJoins :
    encodeFrame (.ident 1 (.ops ⟨⟩)) = some ⟨0x31, 1, []⟩ ∧
    (let s := { small with fli := { small.fli with inQ := [⟨0x31, 1, []⟩], reserved := 8 } }
     ¬ (s.fli.replies + s.fli.reserved < 8 ∧ s.fli.outQ.length + s.fli.reserved < 48) ∧
       s.fli.inQ.head? = some ⟨0x31, 1, []⟩) ∧
    let s := { small with fli := { small.fli with inQ := [⟨0x31, 2, []⟩] } }
    s.canTake ⟨0x31, 1, []⟩ = false ∧ s.fli.inQ.head? ≠ some ⟨0x31, 1, []⟩ ∧ s.fli.inQ.head? = some ⟨0x31, 2, []⟩ := by
  decide +kernel

theorem test_meets_codecs :
    Instr.wf (.ident 1 (.ops ⟨⟩)) = true ∧ encodeFrame (.ident 1 (.ops ⟨⟩)) = some ⟨0x31, 1, []⟩ ∧
    ([] : List Byte).length ≤ 1024 ∧ (⟨0x31, 1, []⟩ : Frame).body.length ≤ 1022 ∧
    small.canTake ⟨0x40, 1, []⟩ = true := by decide +kernel

/-- The hunt of 10.10 to its end: the bytes after the corrupted length, then the expiry of the gap timer. -/
theorem test_gapTimerExpiry :
    let s := (receives [0xA5, 0, 0xA5, 0x30, 7, 0xC7, 0xA5, 0, 2, 0x30, 8, 0xC6] small).getD small
    s.fli.rxState = .payload ∧ s.fli.gapTimer = true ∧
      (after .gapTimerExpiry s).fli.inQ = [⟨0x30, 8, []⟩] := by decide +kernel

theorem test_rxdByte : receives [0xA5, 0, 2, 0x30, 7, 0xC7] small =
    some { small with fli := { small.fli with inQ := [⟨0x30, 7, []⟩] } } := by decide +kernel

/-- The receiver in each of its states, for ReceiverTakesByte; GoodFrameArrives starts in HUNT. -/
theorem test_meets_receiver :
    let at_ := fun k => ((receives ([0xA5, 0, 2, 0x30, 7].take k) small).getD small).fli
    (at_ 0).rxState = .hunt ∧ (at_ 1).rxState = .length1 ∧ (at_ 2).rxState = .length2 ∧
    2 ≤ payloadLength ((at_ 2).kept ++ [2]) ∧ payloadLength ((at_ 2).kept ++ [2]) ≤ 1024 ∧
    (at_ 3).rxState = .payload ∧ (at_ 5).rxState = .check ∧ (at_ 5).kept = [0, 2, 0x30, 7] ∧
    byteSum ((at_ 5).kept ++ [0xC7]) = 0 ∧ small.fli.inQ.length < 8 := by decide +kernel

theorem test_meets_receiverLaw : small.fli.receiverLaw := ⟨rfl, rfl⟩

theorem test_meets_DiscardCountsError :
    (∃ s : State, s.fli.gapTimer = true ∧ ∀ b ∈ s.fli.kept, b ≠ 0xA5) ∧ small.fli.gapTimer = false :=
  ⟨⟨{ small with fli := { small.fli with rxState := .length2, kept := [0], gapTimer := true } }, rfl, by decide +kernel⟩, rfl⟩

/-- The other two discards of DiscardCountsError at the ends of their ranges: lengths 1 and 1,025, and a sum of 1. -/
theorem test_meets_discards :
    let at_ := fun bytes => ((receives bytes small).getD small).fli
    (at_ [0xA5, 0]).rxState = .length2 ∧ payloadLength ((at_ [0xA5, 0]).kept ++ [1]) = 1 ∧
    (at_ [0xA5, 4]).rxState = .length2 ∧ payloadLength ((at_ [0xA5, 4]).kept ++ [1]) = 1025 ∧
    (at_ [0xA5, 0, 2, 0x30, 7]).rxState = .check ∧ byteSum ((at_ [0xA5, 0, 2, 0x30, 7]).kept ++ [0xC8]) = 1 := by
  decide +kernel

/-- The small machine with a notice waiting. -/
def waitingNotice : State :=
  { small with fli := { small.fli with outQ := [.line ⟨1, .input, .low, 1, 1⟩] } }

theorem test_transmitStart :
    (after (.transmitStart .high) waitingNotice).fli.sending =
        some [0xA5, 0, 7, 0xC2, 1, 0, 0, 1, 0, 1, 0x34] ∧
      (after (.transmitStart .low) waitingNotice).fli.sending = none ∧
      waitingNotice.fli.sending = none ∧ waitingNotice.fli.outQ.head? = some (.line ⟨1, .input, .low, 1, 1⟩) := by
  decide +kernel

theorem test_transmitEnd :
    let s := after (.transmitStart .high) waitingNotice
    s.fli.sending ≠ none ∧ (after .transmitEnd s).fli.outQ = [] := by decide +kernel

/-- Line 1 with a falling edge due, of a function. -/
def edgeDue (fn : LineFunc) (s : State) : State :=
  { s with lnu := ⟨[(1, ⟨fn, .low, .high, 0, true⟩)]⟩, fli := { s.fli with mask := ⟨true, false, true⟩ } }

theorem test_linePinChange : (after (.linePinChange 1 .low) small).line 1 = ⟨.input, .low, .high, 0, true⟩ := by
  decide +kernel

theorem test_meets_edges :
    let x := (edgeDue .hold small).line 1
    x.timer = true ∧ x.pin ≠ x.level ∧ ¬ (x.func = .ack ∧ x.pin = .low ∧ (edgeDue .hold small).fau.alerts ≠ []) ∧
    ¬ ((small.line 1).timer = true ∧ (small.line 1).pin ≠ (small.line 1).level) := by decide +kernel

theorem test_meets_AckKeyAcknowledgesHead :
    let s := edgeDue .ack alarmed
    (s.line 1).timer = true ∧ (s.line 1).pin = .low ∧ (s.line 1).level = .high ∧ (s.line 1).func = .ack ∧
    s.fau.alerts = ⟨5, .high, 10200, 10250, 2⟩ :: [] ∧ s.canonical ∧ s.alertLaw ∧ s.flashLaw := by
  refine ⟨by decide +kernel, by decide +kernel, by decide +kernel, by decide +kernel, by decide +kernel, ?_, ?_,
    alarmed_flashLaw⟩
  · unfold State.canonical Slot.canonical Profile.canonical
    decide +kernel
  · exact alarmed_alertLaw

/-- A HOLD line whose edge falls raises the key hold and reports its edge (R72, R188). -/
theorem test_debounceExpiry :
    let t := after (.debounceExpiry 1) (edgeDue .hold small)
    t.keyHold = true ∧ lastPayload t = [0xC2, 1, 2, 0, 1, 0, 1] := by decide +kernel

/-- With LINE notices off, the ACK key gives the KEYACK notice: 19 + n bytes of body (R116, R185). -/
theorem test_debounceExpiry_ack :
    let s := edgeDue .ack alarmed
    let t := after (.debounceExpiry 1) { s with fli := { s.fli with mask := ⟨true, false, false⟩ } }
    t.fau.alerts = [] ∧ (lastPayload t).length = 1 + 19 + 3 ∧ (lastPayload t).take 3 = [0xC0, 1, 5] := by decide +kernel

/-! ## Colours and rounding -/

/-- The blend at ratio 16 of 0 and 255 is 128, and the ratio of a full flash is 31 (R152). -/
theorem test_blend : blend 16 0 255 = 128 ∧ flashRatio 30 30 = 31 ∧ flashRatio 60 1 = 1 := by decide +kernel

/-- Every hypothesis of BlendStaysBetween at the ends of its range. -/
theorem test_meets_BlendStaysBetween : (1 ≤ 1 ∧ 1 ≤ 60 ∧ 60 ≤ 60) ∧ 1 ≤ 1 ∧ 1 ≤ 1 := by decide +kernel

theorem test_meets_PixelChannelsInRange : small.flashLaw ∧
    ({ small with dtg := { small.dtg with activeColour := .reduced } } : State).dtg.activeColour = .reduced :=
  ⟨small_flashLaw, rfl⟩

/-- Each case of PixelChannelsInRange: what a cell may show, a line that is active and one that is not. -/
theorem test_meets_panel :
    showing.shown 0 0 = .cell 190 ∧ showing.shown 5 2 = .crawl 16 ∧ showing.shown 9 9 = .back ∧
    scanning.shown 24 57 = .banner 0x41 ∧
    showing.dtg.power = .awake ∧ showing.dtg.phase = .scan ∧ showing.dtg.activeFormat = .f1 ∧
    Format.f1.blankLines ≤ 38 ∧ 38 < Format.f1.lines ∧ small.dtg.phase ≠ .scan := by decide +kernel

/-- Under F1 the first active line is line 38, of 1,024 pixels; line 0 is marked by VS; asleep PD is 0 (R159, R166,
R170). -/
theorem test_panel :
    Format.f1.pixelW = 1024 ∧ scanning.panel 38 0 = (true, ⟨0, 0, 0⟩) ∧
    (scanning.panel 37 0).1 = false ∧ (scanning.panelLine 0).vs = true ∧ scanning.pclk = 65000 ∧
    { scanning with dtg := { scanning.dtg with power := .asleep } }.panel 38 0 = (false, ⟨0, 0, 0⟩) := by decide +kernel

theorem test_roundHalf : roundHalf 1005 10 = 101 ∧ roundHalf (-1005) 10 = -101 ∧ roundHalf 1004 10 = 100 ∧ 0 < 10 := by
  decide +kernel

/-- The flash table of ColumnFillsItsWidth, with an entry for the LAST column and without one (R98). -/
theorem test_meets_ColumnFillsItsWidth :
    Table.wf none flashing.fau.flash = true ∧ Table.wf none small.fau.flash = true ∧
    (flashing.columnCells 5 (priceColumn 6 false 2)).map (·.ref) = List.replicate 6 (some 0) ∧
    (small.columnCells 5 (priceColumn 6 false 2)).map (·.ref) = List.replicate 6 none := by decide +kernel

/-! ## The laws of a step -/

/-- The small machine with a command waiting, for the statements about a step; it answers a next state. -/
def ready : State := { small with pending := [.commitStep] }

theorem test_meets_step : ready.pending = [.commitStep] ∧ small.pending = [] ∧
    (∀ i ∈ ready.pending, i.wf = true) := by decide +kernel

theorem test_step : step ready = exec .commitStep { ready with pending := [] } := rfl

theorem test_meets_link_and_queue_laws :
    ready.linkLaw ∧ ready.fli.receiverLaw ∧ ready.slotLaw ∧ ready.queueLaw ∧ ready.commitLaw := by
  refine ⟨?_, ⟨rfl, rfl⟩, ?_, ?_, ?_⟩
  · unfold State.linkLaw
    decide +kernel
  · unfold State.slotLaw Slot.law fieldHolds isPrice
    decide +kernel
  · unfold State.queueLaw fieldHolds isPrice
    decide +kernel
  · unfold State.commitLaw
    decide +kernel

theorem test_meets_page_laws :
    ready.canonical ∧ ready.pageLaw ∧ ready.layoutLaw ∧ ready.placementLaw ∧ ready.compositionLaw ∧
      ready.crawlLaw := by
  refine ⟨small_canonical, ?_, ?_, ?_, ?_, ?_⟩
  · unfold State.pageLaw
    simp [ready, small, Table.wf, Page.size]
  · unfold State.layoutLaw
    simp [ready, small, columns2, Table.wf, Column.law, Source.widthOk, runsMeet]
  · refine ⟨by decide +kernel, ?_⟩
    simp [ready, small, slot5, State.placed, State.page, State.layout, Table.get, columns2, extent]
  · unfold State.compositionLaw State.copyLaw
    simp [ready, small, State.reset, Sco.reset, Table.wf, Window.empty]
  · unfold State.crawlLaw
    simp [ready, small, State.reset, Sco.reset, Dtg.reset, Format.cellW, Composition.crawlPane, Composition.pane,
      Table.get, Pane.hidden, List.range_succ]

theorem test_meets_flash_and_range_laws :
    ready.alertLaw ∧ ready.flashLaw ∧ ready.referenceLaw ∧ ready.rangeLaw := by
  refine ⟨small_alertLaw, small_flashLaw, ?_, ?_⟩
  · simp [State.referenceLaw, ready, small]
  · unfold State.rangeLaw settingsLaw
    simp [ready, small, State.reset, Gcu.reset, Profile.factory, Config.factoryPalette, Config.factoryBanner,
      Fau.reset, Sco.reset, printable]

end Sys2Proof.Tests
end

-- ==== Proofs: tables ====
section
/-!
SUPPORT. Tables seen number by number: what holds of the entries of a canonical table in terms of what its numbers
read as, what the entries of a written table are, and sums over a table.
-/

namespace Sys2Proof

variable {β : Type}

/-- An entry of a table with a run written is an old one outside the run, or one of the records written. -/
theorem Table.mem_writeRun [DecidableEq β] {d : β} {t : Table β} {a : Nat} {vs : List β} {e : Nat × β}
    (he : e ∈ Table.writeRun d t a vs) :
    (e ∈ t ∧ (e.1 < a ∨ a + vs.length ≤ e.1)) ∨ (a ≤ e.1 ∧ e.1 < a + vs.length ∧ e.2 ∈ vs) := by
  have hnum : ∀ (vs : List β) (a : Nat), e ∈ Table.numbered d a vs → e.2 ∈ vs := by
    intro vs
    induction vs with
    | nil => simp [Table.numbered]
    | cons v vs ih =>
      intro a h
      rw [Table.numbered] at h
      split at h
      · exact List.mem_cons_of_mem _ (ih _ h)
      · rcases List.mem_cons.mp h with rfl | h
        · exact List.mem_cons_self
        · exact List.mem_cons_of_mem _ (ih _ h)
  unfold Table.writeRun at he
  simp only [List.mem_append, List.mem_filter, decide_eq_true_eq] at he
  rcases he with ⟨h, hlt⟩ | h | ⟨h, hle⟩
  · exact .inl ⟨h, .inl hlt⟩
  · obtain ⟨h1, h2, -⟩ := Table.mem_numbered d a vs e h
    exact .inr ⟨h1, h2, hnum vs a h⟩
  · exact .inl ⟨h, .inr hle⟩

/-- An entry of a table with a record set is an old one of another number, or the record set. -/
theorem Table.mem_set [DecidableEq β] {d : β} {t : Table β} {k : Nat} {v : β} {e : Nat × β}
    (he : e ∈ Table.set d t k v) : (e ∈ t ∧ e.1 ≠ k) ∨ e = (k, v) := by
  rcases Table.mem_writeRun he with ⟨h, hk⟩ | ⟨h1, h2, h3⟩
  · simp only [List.length_singleton] at hk
    exact .inl ⟨h, by omega⟩
  · simp only [List.length_singleton, List.mem_singleton] at h2 h3
    exact .inr (Prod.ext (by simp only; omega) h3)

theorem Table.mem_of_mem_clearRun {t : Table β} {a n : Nat} {e : Nat × β} (he : e ∈ Table.clearRun t a n) : e ∈ t :=
  (List.mem_filter.mp he).1

/-- An entry of an adjusted table comes from the old one of its number. -/
theorem Table.mem_adjust [DecidableEq β] {d : β} {f : Nat → β → β} {t : Table β} {e : Nat × β}
    (he : e ∈ Table.adjust d f t) : ∃ v, (e.1, v) ∈ t ∧ e.2 = f e.1 v := by
  obtain ⟨x, hx, rfl⟩ := List.mem_map.mp (List.mem_filter.mp he).1
  exact ⟨x.2, hx, rfl⟩

/-- What holds of every entry of a canonical table holds of every number that does not read as the default. -/
theorem Table.forall_mem_iff [DecidableEq β] {d : β} {t : Table β} (h : Table.wf d t = true) (P : Nat → β → Prop) :
    (∀ e ∈ t, P e.1 e.2) ↔ ∀ k, Table.get d t k ≠ d → P k (Table.get d t k) := by
  constructor
  · exact fun hP k hk => hP _ (Table.mem_of_get_ne d t k hk)
  · intro hP e he
    obtain ⟨hg, hd⟩ := (Table.mem_iff h e.1 e.2).mp he
    simpa only [hg] using hP e.1 (by rwa [hg])

/-- A symmetric relation that holds between any two entries of a canonical table holds between any two numbers that do
not read as the default. -/
theorem Table.pairwise_iff [DecidableEq β] {d : β} {t : Table β} (h : Table.wf d t = true) {R : β → β → Prop}
    (hR : ∀ x y, R x y → R y x) :
    (t.Pairwise fun a b => R a.2 b.2) ↔
      ∀ i j, i ≠ j → Table.get d t i ≠ d → Table.get d t j ≠ d → R (Table.get d t i) (Table.get d t j) := by
  have _ : Std.Symm fun a b : Nat × β => R a.2 b.2 := ⟨fun a b => hR a.2 b.2⟩
  constructor
  · intro hp i j hij hi hj
    exact hp.forall (Table.mem_of_get_ne d t i hi) (Table.mem_of_get_ne d t j hj) fun he =>
      hij (congrArg Prod.fst he)
  · intro hg
    obtain ⟨hp, hd⟩ := (Table.wf_iff d t).mp h
    refine hp.imp_of_mem fun {a b} ha hb hlt => ?_
    have := hg a.1 b.1 (by omega)
    rw [Table.get_of_mem h ha, Table.get_of_mem h hb] at this
    exact this (hd a ha) (hd b hb)

/-- The sum of a figure over the entries of a canonical table is its sum over the numbers below a bound, where the
default counts nothing. -/
theorem Table.sum_eq [DecidableEq β] {d : β} {t : Table β} (h : Table.wf d t = true) {f : β → Nat} (hf : f d = 0)
    {N : Nat} (hN : ∀ e ∈ t, e.1 < N) :
    (t.map fun e => f e.2).sum = ∑ k ∈ Finset.range N, f (Table.get d t k) := by
  obtain ⟨hp, -⟩ := (Table.wf_iff d t).mp h
  clear h
  induction t with
  | nil => simp [hf]
  | cons e t ih =>
    obtain ⟨i, v⟩ := e
    obtain ⟨h1, h2⟩ := List.pairwise_cons.mp hp
    have hi : Table.get d t i = d := Table.get_of_ne d t i fun x hx => by have := h1 x hx; simp at this; omega
    have hiN : i ∈ Finset.range N := by simpa using hN (i, v) (by simp)
    rw [List.map_cons, List.sum_cons, ih (fun e he => hN e (by simp [he])) h2, ← Finset.add_sum_erase _ _ hiN,
      ← Finset.add_sum_erase _ (fun k => f (Table.get d ((i, v) :: t) k)) hiN, hi, hf]
    simp only [Table.get_cons, if_true, Nat.zero_add]
    congr 1
    refine Finset.sum_congr rfl fun k hk => ?_
    rw [if_neg (Finset.ne_of_mem_erase hk).symm]

/-- A bound on the numbers of a table. -/
theorem Table.exists_bound (t : Table β) : ∃ N, ∀ e ∈ t, e.1 < N := by
  induction t with
  | nil => exact ⟨0, by simp⟩
  | cons x t ih =>
    obtain ⟨N, hN⟩ := ih
    refine ⟨max N (x.1 + 1), fun e he => ?_⟩
    rcases List.mem_cons.mp he with rfl | he
    · omega
    · have := hN e he; omega

/-- A figure that is nowhere greater in one canonical table than in another has no greater sum. -/
theorem Table.sum_le_sum [DecidableEq β] {d : β} {t u : Table β} (ht : Table.wf d t = true) (hu : Table.wf d u = true)
    {f : β → Nat} (hf : f d = 0) (h : ∀ k, f (Table.get d t k) ≤ f (Table.get d u k)) :
    (t.map fun e => f e.2).sum ≤ (u.map fun e => f e.2).sum := by
  obtain ⟨N, hN⟩ := Table.exists_bound (t ++ u)
  rw [Table.sum_eq ht hf fun e he => hN e (List.mem_append_left _ he),
    Table.sum_eq hu hf fun e he => hN e (List.mem_append_right _ he)]
  exact Finset.sum_le_sum fun k _ => h k

/-- Setting a record changes a sum by that record. -/
theorem Table.sum_set [DecidableEq β] {d : β} {t : Table β} (ht : Table.wf d t = true) {f : β → Nat} (hf : f d = 0)
    (k : Nat) (v : β) :
    ((Table.set d t k v).map fun e => f e.2).sum + f (Table.get d t k) = (t.map fun e => f e.2).sum + f v := by
  obtain ⟨N, hN⟩ := Table.exists_bound ((k, v) :: t)
  have hk : k ∈ Finset.range N := by simpa using hN (k, v) (by simp)
  have ht' : ∀ e ∈ t, e.1 < N := fun e he => hN e (by simp [he])
  have hs : ∀ e ∈ Table.set d t k v, e.1 < N := fun e he => by
    rcases Table.mem_set he with ⟨h, -⟩ | rfl
    · exact ht' e h
    · simpa using hk
  rw [Table.sum_eq ht hf ht', Table.sum_eq (Table.wf_set ht k v) hf hs, ← Finset.add_sum_erase _ _ hk,
    ← Finset.add_sum_erase _ (fun j => f (Table.get d t j)) hk, Table.get_set_self]
  have : ∑ j ∈ (Finset.range N).erase k, f (Table.get d (Table.set d t k v) j) =
      ∑ j ∈ (Finset.range N).erase k, f (Table.get d t j) :=
    Finset.sum_congr rfl fun j hj => by rw [Table.get_set, if_neg (Finset.ne_of_mem_erase hj)]
  omega

/-- Different numbers whose records count something are no more than the sum. -/
theorem Table.length_le_sum [DecidableEq β] {d : β} {t : Table β} (ht : Table.wf d t = true) {f : β → Nat}
    (hf : f d = 0) {ks : List Nat} (hks : ks.Nodup) (h : ∀ k ∈ ks, 1 ≤ f (Table.get d t k)) :
    ks.length ≤ (t.map fun e => f e.2).sum := by
  obtain ⟨N, hN⟩ := Table.exists_bound t
  have hlt : ∀ k ∈ ks, k < N := fun k hk => by
    have hne : Table.get d t k ≠ d := fun he => by have := h k hk; rw [he, hf] at this; omega
    exact hN _ (Table.mem_of_get_ne d t k hne)
  rw [Table.sum_eq ht hf hN, ← List.toFinset_card_of_nodup hks, Finset.card_eq_sum_ones]
  calc ∑ _k ∈ ks.toFinset, 1 ≤ ∑ k ∈ ks.toFinset, f (Table.get d t k) :=
        Finset.sum_le_sum fun k hk => h k (List.mem_toFinset.mp hk)
    _ ≤ _ := Finset.sum_le_sum_of_subset fun k hk => by
        simpa using hlt k (List.mem_toFinset.mp hk)

end Sys2Proof
end

-- ==== Proofs: what a command can do ====
section
/-!
SUPPORT. What a command can do, said once: `Change i s t` lists the changes that command `i` can make to every block but
the feed link, each with the checks that stand before it. Every step makes one of them, up to the link.
-/

namespace Sys2Proof.Machine

/-! ## The operands of requests -/

@[simp] theorem upTo?_eq_some {n : Nat} {b : Byte} {k : Nat} : upTo? n b = some k ↔ b.toNat ≤ n ∧ b.toNat = k := by
  unfold upTo?
  split <;> simp_all

@[simp] theorem between?_eq_some {lo hi : Nat} {b : Byte} {k : Nat} :
    between? lo hi b = some k ↔ (lo ≤ b.toNat ∧ b.toNat ≤ hi) ∧ b.toNat = k := by
  unfold between?
  split <;> simp_all

@[simp] theorem paletteIndex?_eq_some {b : Byte} {k : Nat} : paletteIndex? b = some k ↔ b.toNat < 64 ∧ b.toNat = k := by
  unfold paletteIndex?
  split <;> simp_all

/-! ## The link apart -/

/-- Nothing but the queue of commands, the count of choices and the feed link. -/
def SameButLink (s t : State) : Prop :=
  t = { s with pending := t.pending, choices := t.choices, fli := t.fli }

theorem SameButLink.refl (s : State) : SameButLink s s := rfl

theorem SameButLink.trans {s t u : State} (h : SameButLink s t) (h' : SameButLink t u) : SameButLink s u := by
  unfold SameButLink at *
  rw [h'] at ⊢
  rw [h]

theorem SameButNotices.link {s t : State} (h : SameButNotices s t) : SameButLink s t := by
  unfold SameButLink
  rw [h]

theorem State.setFli_link (s : State) (f : Fli) : SameButLink s (s.setFli f) := rfl

theorem State.dropHead_link (s : State) : SameButLink s s.dropHead := rfl

theorem Answer.finish_link (a : Answer) (f : Frame) : SameButLink a.state (a.finish f) := by
  unfold Answer.finish
  split <;> rfl

/-! ## The changes -/

/-- The changes that a command `i` can make to the blocks other than the link, each with the checks that stand before
it. -/
inductive Change (i : Instr) (s : State) : State → Prop
  | same : Change i s s
  | format (f : Format) : Change i s (s.setDtg { s.dtg with stagedFormat := f })
  | mode (a : Area) (c : ColourMode) (p : Power) : Change i s (s.setDtg (s.dtg.setModes a c p))
  | screen (back dim : Nat) (banner : List Byte) (hback : back < 64) (hdim : dim ≤ 255) (hlen : banner.length ≤ 40)
      (hchars : banner.all printable = true) :
      Change i s (s.setGcu { s.gcu with back := back, dim := dim, banner := banner })
  | palette (start : Nat) (entries : List Rgb) (hfits : start + entries.length ≤ 64) :
      Change i s (s.setGcu { s.gcu with palette := Table.writeRun black s.gcu.palette start entries })
  | style (c : Nat) (st : Style) (hc : c < 16) (hst : st.law) :
      Change i s (s.setGcu { s.gcu with styles := Table.set .factory s.gcu.styles c st })
  | fontarea (a : Nat) (x : FontArea) (ha : a < 4) (hbank : x.bank ≤ 3) (hbase : x.base ≤ 255) :
      Change i s (s.setGcu { s.gcu with areas := Table.set .disabled s.gcu.areas a x })
  | glyphs (tag : Byte) (o : GlyphsOps) (hi : i = .glyphs tag (.ops o)) (hbank : 1 ≤ o.bank.toNat ∧ o.bank.toNat ≤ 3)
      (hfits : o.first.toNat + o.glyphs.length ≤ 256) (hawake : s.dtg.power ≠ .asleep) :
      Change i s (s.setGcu { s.gcu with
        glyphs := Table.writeRun 0 s.gcu.glyphs (glyphKey o.bank.toNat o.first.toNat 0)
          (o.glyphs.flatten.map storedRow) })
  | page (id : Nat) (pg : Page) (hid : id < 16) (hrows : 1 ≤ pg.rows ∧ pg.rows ≤ 128)
      (hcols : 1 ≤ pg.cols ∧ pg.cols ≤ 200) (hfree : s.page id = none) (hfits : pg.base + pg.size ≤ 24576)
      (hmeet : s.pageOverlap pg.base pg.size = false) :
      Change i s ((s.setPages (Table.set none s.cst.pages id (some pg))).setCells
        (Table.clearRun s.cst.cells pg.base pg.size))
  | unpage (id : Nat) (hplace : (s.anyPlacement fun p => p.page == id) = false)
      (hstaged : s.sco.staged.namesPage id = false) (hactive : s.sco.active.namesPage id = false) :
      Change i s (s.setPages (Table.set none s.cst.pages id none))
  | text (pg : Page) (row col : Nat) (codes : List Code) (fg bg : Nat) (flags : CellFlags)
      (hpg : ∃ id, s.page id = some pg) (hrow : row < pg.rows) (hcol : col + codes.length ≤ pg.cols) (hfg : fg < 64)
      (hbg : bg < 64) :
      Change i s (s.writeCells (pg.cellIndex row col) (codes.map fun c => ⟨c, fg, bg, flags, none, false⟩))
  | fill (pg : Page) (top left rows cols : Nat) (code : Code) (fg bg : Nat) (flags : CellFlags)
      (hpg : ∃ id, s.page id = some pg) (hrow : top + rows ≤ pg.rows) (hcol : left + cols ≤ pg.cols) (hfg : fg < 64)
      (hbg : bg < 64) : Change i s (s.fillRect pg top left rows cols ⟨code, fg, bg, flags, none, false⟩)
  | pane (p : Nat) (r : Pane) (hp : p < 8) (hscr : r.scrRow ≤ 63 ∧ r.scrCol ≤ 159)
      (hsrc : r.srcRow ≤ 127 ∧ r.srcCol ≤ 199) (hrows : 1 ≤ r.rows ∧ r.rows ≤ 64) (hcols : 1 ≤ r.cols ∧ r.cols ≤ 160)
      (hprio : r.priority ≤ 7) (hpage : ∀ id ∈ r.page, (s.page id).isSome)
      (hnone : r.kind = .page → r.page = none → r.priority = 0)
      (hcrawl : r.kind = .crawl → r.page = none ∧ r.rows = 1 ∧ r.srcRow = 0 ∧ r.srcCol = 0)
      (hother : r.kind = .crawl → s.sco.staged.otherCrawl p = false) : Change i s (s.setSco (s.sco.stagePane p r))
  | scroll (p row col : Nat) (hp : p < 8) (hrow : row ≤ 127) (hcol : col ≤ 199)
      (hkind : (s.sco.staged.pane p).kind = .page) :
      Change i s (s.setSco { s.sco with
        staged := { s.sco.staged with
          panes := Table.set .hidden s.sco.staged.panes p
            { s.sco.staged.pane p with srcRow := row, srcCol := col } } })
  | clip (second : Bool) (w : Window) (hw : w.top ≤ 63 ∧ w.left ≤ 159 ∧ w.rows ≤ 64 ∧ w.cols ≤ 160) :
      Change i s (s.setSco { s.sco with staged := s.sco.staged.setWindow second w })
  | crawl (text : List CrawlChar) (hpos : 1 ≤ text.length) (hfits : s.sco.ring.length + text.length ≤ 1024)
      (hcol : ∀ c ∈ text, c.fg < 64 ∧ c.bg < 64) : Change i s (s.setSco (s.sco.append text))
  | crawlctl (speed blank : Nat) (clear : Bool) (hspeed : speed ≤ 8) (hblank : blank < 64) :
      Change i s (s.setSco (if clear then { s.sco with speed := speed, blank := blank }.clearCrawl
        else { s.sco with speed := speed, blank := blank }))
  | define (n : Nat) (symbol : List Byte) (sc : Scale) (fs stale : Nat) (hn : n < 256)
      (hsym : 1 ≤ symbol.length ∧ symbol.length ≤ 12 ∧ symbol.all printable = true) (hfs : fs < 16)
      (hstale : stale ≤ 65535) (hfree : (s.slot n).defined = false) (hnew : s.symbolTaken symbol = false) :
      Change i s (s.setSlot n
        { Slot.empty with state := .quiet, symbol := symbol, scale := some sc, flashStyle := fs, stale := stale })
  | drop (n : Nat) (hdef : (s.slot n).defined = true) : Change i s (s.dropSlot n)
  | layout (l : Nat) (cs : List Column) (hl : l < 16) (hlen : 1 ≤ cs.length ∧ cs.length ≤ 12)
      (hcs : ∀ c ∈ cs, c.source.widthOk c.width = true ∧ c.style < 16 ∧ c.maxdec ≤ 6) (hext : extent cs ≤ 200)
      (hsrc : anyPair (fun a b => a.source == b.source) cs = false)
      (hmeet : anyPair (fun a b => runsMeet a.offset a.width b.offset b.width) cs = false)
      (hplace : (s.anyPlacement fun p => p.layout == l) = false) :
      Change i s (s.setLayouts (Table.set none s.itb.layouts l (some cs)))
  | place (n : Nat) (p : Placement) (pg : Page) (cs : List Column) (hdef : (s.slot n).defined = true)
      (hpg : s.page p.page = some pg) (hcs : s.layout p.layout = some cs) (hrow : p.row < pg.rows)
      (hcol : p.col + extent cs ≤ pg.cols) (hfour : (s.slot n).placements.length < 4) (hpool : s.placementsUsed < 512) :
      Change i s (s.addPlacement n p)
  | unplace (n k : Nat) (p : Placement) (hdef : (s.slot n).defined = true) (hp : (s.slot n).placements[k]? = some p) :
      Change i s (s.removePlacement n k p)
  | post (n : Nat) (ps : List PairOps) (hdef : (s.slot n).defined = true) (hlen : 1 ≤ ps.length ∧ ps.length ≤ 8)
      (hfield : ∀ p ∈ ps, p.field.toNat < 8) (hdup : duplicateField ps = false) (hrange : ps.all pairInRange = true)
      (hfree : s.newPairs n ps ≤ s.upq.free) : Change i s (s.postPairs n ps)
  | pendingFull : Change i s s.pendingFull
  | limit (n : Nat) (side : Side) (l : Limit) (hdef : (s.slot n).defined = true)
      (hold : ((s.slot n).limit side).isFired = false) (hnew : l.isFired = false)
      (hfree : l.counts = true → ((s.slot n).limit side).counts = true ∨ s.limitCount < 32) :
      Change i s (s.setSlot n ((s.slot n).setLimit side l))
  | ack (n : Nat) (side : Side) (hdef : (s.slot n).defined = true) (hfired : ((s.slot n).limit side).isFired = true) :
      Change i s (s.acknowledge n side)
  | hold (v : Bool) : Change i s (s.setCme { s.cme with linkHold := v })
  | qslot (n : Nat) : Change i s (s.setSlot n { s.slot n with conflation := 0 })
  | lines (a b c d : LineFunc) :
      Change i s (s.setLines (Table.writeRun .idle s.lnu.lines 0
        [(s.line 0).given a, (s.line 1).given b, (s.line 2).given c, (s.line 3).given d]))
  | save (g : Nat) (tag : Byte) (hidle : s.pst.programming = none) (hg : g ∈ generations)
      (hnew : (s.gen g).claimed = false) :
      Change i s (s.setPst { s.pst with
        gens := Table.set .unused s.pst.gens g { s.gen g with claimed := true }
        programming := some ⟨g, tag, s.currentProfile⟩ })
  | saved (p : Programming) (hp : s.pst.programming = some p) :
      Change i s (s.setPst { s.pst with
        gens := Table.set .unused s.pst.gens p.generation { s.gen p.generation with done := some p.data }
        programming := none })
  | reset (glyphs : Table GlyphRow) (f : Fli) (p : Option Programming) (hg : glyphs = [] ∨ glyphs = s.gcu.glyphs)
      (hp : p = none ∨ p = s.pst.programming) : Change i s (s.resetBlocks glyphs f p)
  | frameStart (hb : s.dtg.atBoundary = true) (hp : s.dtg.stagedPower = .awake) : Change i s s.frameStart
  | sleepEntry (hb : s.dtg.atBoundary = true) (hp : s.dtg.stagedPower = .asleep) : Change i s s.sleepEntry
  | scanStart (hd : s.dtg.scanDue = true) : Change i s s.scanStart
  | commitStep (hc : s.cme.state = .committing) : Change i s s.commitStep
  | pinChange (l : Nat) (level : Level) (hl : l < 4) : Change i s (s.setLine l ((s.line l).pinChange level))
  | edge (l : Nat) (hl : l < 4) (hd : (s.line l).edgeDue = true) : Change i s (s.debouncedEdge l)

/-- The command's change, up to the link. -/
def Changed (i : Instr) (s t : State) : Prop := ∃ u, Change i s u ∧ SameButLink u t

theorem Change.changed {i : Instr} {s t : State} (h : Change i s t) : Changed i s t := ⟨t, h, .refl t⟩

theorem Changed.same {i : Instr} {s : State} : Changed i s s := Change.same.changed

theorem Changed.link {i : Instr} {s t u : State} (h : Changed i s t) (h' : SameButLink t u) : Changed i s u := by
  obtain ⟨v, hv, hl⟩ := h
  exact ⟨v, hv, hl.trans h'⟩

/-! ## The changes of each request -/

section

variable (i : Instr) (s : State)

theorem formatAction_changed (o : FormatOps) : Changed i s (formatAction o s).state := by
  unfold formatAction
  split
  · exact .same
  · exact (Change.format _).changed

theorem modeAction_changed (o : ModeOps) : Changed i s (modeAction o s).state := by
  unfold modeAction
  split
  · exact (Change.mode ..).changed
  · exact .same

theorem screenAction_changed (o : ScreenOps) : Changed i s (screenAction o s).state := by
  unfold screenAction
  split
  · exact .same
  · next back hback =>
    split
    · exact .same
    · next hb =>
      simp only [not_or, not_lt, Bool.not_eq_true', Bool.not_eq_false] at hb
      obtain ⟨h64, rfl⟩ := paletteIndex?_eq_some.mp hback
      exact (Change.screen _ _ _ h64 (by omega) hb.1 hb.2).changed

theorem paletteAction_changed (o : PaletteOps) : Changed i s (paletteAction o s).state := by
  unfold paletteAction
  split
  · exact .same
  · split
    · exact .same
    · split
      · exact .same
      · next h => exact (Change.palette _ _ (by omega)).changed

theorem styleRecord?_law {o : StyleOps} {st : Style} (h : styleRecord? o = some st) : st.law := by
  simp only [styleRecord?, Option.bind_eq_bind, Option.bind_eq_some_iff, paletteIndex?_eq_some, upTo?_eq_some,
    Option.some.injEq] at h
  obtain ⟨_, ⟨h1, rfl⟩, _, ⟨h2, rfl⟩, _, ⟨h3, rfl⟩, _, ⟨h4, rfl⟩, _, ⟨h5, rfl⟩, _, ⟨h6, rfl⟩, _, -, _, -, _, -, _, -,
    rfl⟩ := h
  exact ⟨h1, h2, h3, h4, h5, h6⟩

theorem styleAction_changed (o : StyleOps) : Changed i s (styleAction o s).state := by
  unfold styleAction
  split
  · next c st hc hst =>
    obtain ⟨h15, rfl⟩ := upTo?_eq_some.mp hc
    exact (Change.style _ _ (by omega) (styleRecord?_law hst)).changed
  · exact .same

theorem fontareaAction_changed (o : FontAreaOps) : Changed i s (fontareaAction o s).state := by
  unfold fontareaAction
  split
  · next a en bank ha hen hbank =>
    obtain ⟨h3, rfl⟩ := upTo?_eq_some.mp ha
    obtain ⟨hb, rfl⟩ := upTo?_eq_some.mp hbank
    exact (Change.fontarea _ _ (by omega) hb (by simp only; omega)).changed
  · exact .same

theorem glyphsAction_changed (tag : Byte) (o : GlyphsOps) (hi : i = .glyphs tag (.ops o)) :
    Changed i s (glyphsAction o s).state := by
  unfold glyphsAction
  split
  · exact .same
  · next bank hbank =>
    obtain ⟨hb, rfl⟩ := between?_eq_some.mp hbank
    split
    · exact .same
    · split
      · exact .same
      · split
        · exact .same
        · next hlen hfits hawake => exact (Change.glyphs tag o hi hb (by omega) hawake).changed

theorem pageAction_changed (o : PageOps) : Changed i s (pageAction o s).state := by
  unfold pageAction
  split
  · next id rows cols hid hrows hcols =>
    obtain ⟨h15, rfl⟩ := upTo?_eq_some.mp hid
    obtain ⟨hr, rfl⟩ := between?_eq_some.mp hrows
    obtain ⟨hc, rfl⟩ := between?_eq_some.mp hcols
    split
    · exact .same
    · split
      · exact .same
      · split
        · exact .same
        · next hfree hfits hmeet =>
          exact (Change.page o.id.toNat ⟨o.base.toNat, o.rows.toNat, o.cols.toNat⟩ (by omega) hr hc
            (by simpa using hfree) (by simpa [Page.size, Config.cellCount] using hfits)
            (by simpa [Page.size] using hmeet)).changed
  · exact .same

theorem unpageAction_changed (o : UnpageOps) : Changed i s (unpageAction o s).state := by
  unfold unpageAction
  split
  · exact .same
  · split
    · exact .same
    · split
      · exact .same
      · split
        · exact .same
        · next hplace hnames =>
          simp only [Bool.or_eq_true, not_or, Bool.not_eq_true] at hplace hnames
          exact (Change.unpage _ hplace hnames.1 hnames.2).changed

theorem textAction_changed (o : TextOps) : Changed i s (textAction o s).state := by
  unfold textAction
  split
  · next id fg bg flags _ hfg hbg _ =>
    split
    · exact .same
    · split
      · exact .same
      · next pg hpg =>
        split
        · next h =>
          obtain ⟨h1, rfl⟩ := paletteIndex?_eq_some.mp hfg
          obtain ⟨h2, rfl⟩ := paletteIndex?_eq_some.mp hbg
          exact (Change.text pg _ _ _ _ _ _ ⟨_, hpg⟩ h.1 h.2 h1 h2).changed
        · exact .same
  · exact .same

theorem fillAction_changed (o : FillOps) : Changed i s (fillAction o s).state := by
  unfold fillAction
  split
  · next id rows cols fg bg flags _ _ _ hfg hbg _ =>
    split
    · exact .same
    · next pg hpg =>
      split
      · next h =>
        obtain ⟨h1, rfl⟩ := paletteIndex?_eq_some.mp hfg
        obtain ⟨h2, rfl⟩ := paletteIndex?_eq_some.mp hbg
        exact (Change.fill pg _ _ _ _ _ _ _ _ ⟨_, hpg⟩ h.1 h.2 h1 h2).changed
      · exact .same
  · exact .same

theorem qcellsAction_changed (o : QcellsOps) : Changed i s (qcellsAction o s).state := by
  unfold qcellsAction
  split
  · split
    · exact .same
    · split <;> exact .same
  · exact .same

theorem panePage?_none {page priority : Byte} (h : panePage? page priority = some none) : priority = 0 := by
  unfold panePage? at h
  split at h
  · split at h
    · assumption
    · simp at h
  · simp at h

theorem paneAction_changed (o : PaneOps) : Changed i s (paneAction o s).state := by
  unfold paneAction
  split
  · next p r hp hr =>
    obtain ⟨h7, rfl⟩ := upTo?_eq_some.mp hp
    split
    · exact .same
    · split
      · exact .same
      · split
        · exact .same
        · next hrow hpage hother =>
          obtain ⟨kind, -, hr⟩ := Option.bind_eq_some_iff.mp hr
          obtain ⟨srcRow, e1, hr⟩ := Option.bind_eq_some_iff.mp hr
          obtain ⟨srcCol, e2, hr⟩ := Option.bind_eq_some_iff.mp hr
          obtain ⟨scrRow, e3, hr⟩ := Option.bind_eq_some_iff.mp hr
          obtain ⟨scrCol, e4, hr⟩ := Option.bind_eq_some_iff.mp hr
          obtain ⟨rows, e5, hr⟩ := Option.bind_eq_some_iff.mp hr
          obtain ⟨cols, e6, hr⟩ := Option.bind_eq_some_iff.mp hr
          obtain ⟨priority, e8, hr⟩ := Option.bind_eq_some_iff.mp hr
          obtain ⟨w0, -, hr⟩ := Option.bind_eq_some_iff.mp hr
          obtain ⟨w1, -, hr⟩ := Option.bind_eq_some_iff.mp hr
          obtain ⟨logic, -, hr⟩ := Option.bind_eq_some_iff.mp hr
          obtain ⟨h1, rfl⟩ := upTo?_eq_some.mp e1
          obtain ⟨h2, rfl⟩ := upTo?_eq_some.mp e2
          obtain ⟨h3, rfl⟩ := upTo?_eq_some.mp e3
          obtain ⟨h4, rfl⟩ := upTo?_eq_some.mp e4
          obtain ⟨h5, rfl⟩ := between?_eq_some.mp e5
          obtain ⟨h6, rfl⟩ := between?_eq_some.mp e6
          obtain ⟨h8, rfl⟩ := upTo?_eq_some.mp e8
          have hdef : ∀ id ∈ r.page, (s.page id).isSome := fun id hid => by
            rw [Option.mem_def] at hid
            simpa [hid, Option.isSome_iff_ne_none] using hpage
          cases kind with
          | crawl =>
            simp only [Option.some.injEq] at hr
            subst hr
            exact (Change.pane _ _ (by omega) ⟨h3, h4⟩ (by simp) h5 h6 h8 hdef (by simp) (by simpa using hrow)
              (by simpa using hother)).changed
          | page =>
            obtain ⟨page, hpg, hr⟩ := Option.bind_eq_some_iff.mp hr
            rw [Option.some.injEq] at hr
            subst hr
            refine (Change.pane _ _ (by omega) ⟨h3, h4⟩ ⟨h1, h2⟩ h5 h6 h8 hdef (fun _ hnone => ?_) (by simp)
              (by simp)).changed
            simp only at hnone
            subst hnone
            simp [panePage?_none hpg]
  · exact .same

theorem scrollAction_changed (o : ScrollOps) : Changed i s (scrollAction o s).state := by
  unfold scrollAction
  split
  · next p row col hp hrow hcol =>
    obtain ⟨h7, rfl⟩ := upTo?_eq_some.mp hp
    obtain ⟨h1, rfl⟩ := upTo?_eq_some.mp hrow
    obtain ⟨h2, rfl⟩ := upTo?_eq_some.mp hcol
    simp only
    split
    · next hk => exact (Change.scroll _ _ _ (by omega) h1 h2 hk).changed
    · exact .same
  · exact .same

theorem clipAction_changed (o : ClipOps) : Changed i s (clipAction o s).state := by
  unfold clipAction
  split
  · next second top left rows cols _ e1 e2 e3 e4 =>
    obtain ⟨h1, rfl⟩ := upTo?_eq_some.mp e1
    obtain ⟨h2, rfl⟩ := upTo?_eq_some.mp e2
    obtain ⟨h3, rfl⟩ := upTo?_eq_some.mp e3
    obtain ⟨h4, rfl⟩ := upTo?_eq_some.mp e4
    exact (Change.clip _ _ ⟨h1, h2, h3, h4⟩).changed
  · exact .same

theorem crawlAction_changed (o : CrawlOps) : Changed i s (crawlAction o s).state := by
  unfold crawlAction
  split
  · next fg bg hfg hbg =>
    obtain ⟨h1, rfl⟩ := paletteIndex?_eq_some.mp hfg
    obtain ⟨h2, rfl⟩ := paletteIndex?_eq_some.mp hbg
    split
    · exact .same
    · split
      · exact .same
      · next hlen hfits =>
        simp only [Config.ringSize] at hfits
        exact (Change.crawl _ (by simp only [List.length_map]; omega) (by simp only [List.length_map]; omega)
          (by simp [h1, h2])).changed
  · exact .same

theorem crawlctlAction_changed (o : CrawlctlOps) : Changed i s (crawlctlAction o s).state := by
  unfold crawlctlAction
  split
  · next speed blank clear hs hb _ =>
    obtain ⟨h1, rfl⟩ := upTo?_eq_some.mp hs
    obtain ⟨h2, rfl⟩ := paletteIndex?_eq_some.mp hb
    exact (Change.crawlctl _ _ _ h1 h2).changed
  · exact .same

theorem defineAction_changed (o : DefineOps) : Changed i s (defineAction o s).state := by
  unfold defineAction
  split
  · next sc fs _ hfs =>
    obtain ⟨h1, rfl⟩ := upTo?_eq_some.mp hfs
    split
    · exact .same
    · split
      · exact .same
      · split
        · exact .same
        · next hsym hfree hnew =>
          simp only [not_or, Bool.not_eq_true', Bool.not_eq_false, not_lt] at hsym
          exact (Change.define _ _ _ _ _ (by omega) ⟨by omega, hsym.2.1, hsym.2.2⟩ (by omega) (by omega)
            (by simpa using hfree) (by simpa using hnew)).changed
  · exact .same

theorem dropAction_changed (o : DropOps) : Changed i s (dropAction o s).state := by
  unfold dropAction
  simp only
  split
  · next h => exact (Change.drop _ h).changed
  · exact .same

theorem column?_law {o : ColumnOps} {c : Column} (h : column? o = some c) :
    c.source.widthOk c.width = true ∧ c.style < 16 ∧ c.maxdec ≤ 6 := by
  simp only [column?, Option.bind_eq_bind, Option.bind_eq_some_iff, upTo?_eq_some,
    Option.ite_none_right_eq_some, Option.some.injEq] at h
  obtain ⟨src, -, _, -, al, -, _, ⟨h1, rfl⟩, sep, -, _, ⟨h2, rfl⟩, co, -, hw, rfl⟩ := h
  exact ⟨hw, by simp only; omega, h2⟩

/-- What a list is mapped to comes from its members. -/
theorem exists_of_mem_mapM {α β : Type} {f : α → Option β} {l : List α} {r : List β} (h : l.mapM f = some r) :
    ∀ y ∈ r, ∃ x ∈ l, f x = some y := by
  induction l generalizing r with
  | nil => simp_all
  | cons a l ih =>
    simp only [List.mapM_cons, Option.bind_eq_bind, Option.bind_eq_some_iff, Option.pure_def, Option.some.injEq] at h
    obtain ⟨b, hb, r', hr', rfl⟩ := h
    intro y hy
    rcases List.mem_cons.mp hy with rfl | hy
    · exact ⟨a, by simp, hb⟩
    · obtain ⟨x, hx, hxy⟩ := ih hr' y hy
      exact ⟨x, by simp [hx], hxy⟩

theorem layoutAction_changed (o : LayoutOps) : Changed i s (layoutAction o s).state := by
  unfold layoutAction
  split
  · next l cs hl hcs =>
    obtain ⟨h1, rfl⟩ := upTo?_eq_some.mp hl
    have hlaw : ∀ c ∈ cs, c.source.widthOk c.width = true ∧ c.style < 16 ∧ c.maxdec ≤ 6 := fun c hc => by
      obtain ⟨o, -, ho⟩ := exists_of_mem_mapM hcs c hc
      exact column?_law ho
    split
    · exact .same
    · split
      · exact .same
      · split
        · exact .same
        · split
          · exact .same
          · split
            · exact .same
            · next hlen hext hsrc hmeet hplace =>
              exact (Change.layout _ cs (by omega) (by omega) hlaw (by omega) (by simpa using hsrc)
                (by simpa using hmeet) (by simpa using hplace)).changed
  · exact .same

theorem placeAction_changed (o : PlaceOps) : Changed i s (placeAction o s).state := by
  unfold placeAction
  simp only
  split
  · split
    · next hdef =>
      split
      · exact .same
      · next pg hpg =>
        split
        · exact .same
        · next cs hcs =>
          split
          · next hin =>
            split
            · next hroom => exact (Change.place _ _ pg cs hdef hpg hcs hin.1 hin.2 hroom.1 hroom.2).changed
            · exact .same
          · exact .same
    · exact .same
  · exact .same

theorem unplaceAction_changed (o : UnplaceOps) : Changed i s (unplaceAction o s).state := by
  unfold unplaceAction
  simp only
  split
  · exact .same
  · split
    · next hdef =>
      split
      · exact .same
      · next p hp => exact (Change.unplace _ _ p hdef hp).changed
    · exact .same

theorem postTo_changed (n : Nat) (ps : Option (List PairOps)) : Changed i s (postTo n ps s).state := by
  unfold postTo
  split
  · next hdef =>
    split
    · exact .same
    · next ps =>
      split
      · exact .same
      · split
        · exact .same
        · split
          · exact .same
          · split
            · exact .same
            · split
              · exact Change.pendingFull.changed
              · next hlen hfield hdup hrange hfree =>
                exact (Change.post n ps hdef (by omega) (by simpa using hfield) (by simpa using hdup)
                  (by simpa using hrange) (by omega)).changed
  · exact .same

theorem postAction_changed (body : Body PostOps) : Changed i s (postAction body s).state := by
  unfold postAction
  split
  · exact postTo_changed ..
  · exact postTo_changed ..
  · exact .same

theorem limitAction_changed (o : LimitOps) : Changed i s (limitAction o s).state := by
  unfold limitAction
  simp only
  split
  · split
    · split
      · next hdef =>
        split
        · exact .same
        · next hl _ =>
          split
          · next hroom => exact (Change.limit _ _ _ hdef (by simp [hl, Limit.isFired]) rfl fun _ => .inr hroom).changed
          · exact .same
        · next hl _ =>
          exact (Change.limit _ _ _ hdef (by simp [hl, Limit.isFired]) rfl fun _ =>
            .inl (by simp [hl, Limit.counts])).changed
        · next hl _ =>
          exact (Change.limit _ _ _ hdef (by simp [hl, Limit.isFired]) rfl (by simp [Limit.counts])).changed
        · next hl _ =>
          exact (Change.limit _ _ _ hdef (by simp [hl, Limit.isFired]) rfl (by simp [Limit.counts])).changed
      · exact .same
    · exact .same
  · exact .same

theorem ackAction_changed (o : AckOps) : Changed i s (ackAction o s).state := by
  unfold ackAction
  simp only
  split
  · exact .same
  · split
    · next hdef =>
      split
      · next hfired => exact (Change.ack _ _ hdef hfired).changed
      · exact .same
    · exact .same

theorem holdAction_changed (o : HoldOps) : Changed i s (holdAction o s).state := by
  unfold holdAction
  split
  · exact .same
  · exact (Change.hold _).changed

theorem qslotAction_changed (o : QslotOps) : Changed i s (qslotAction o s).state := (Change.qslot o.slot.toNat).changed

theorem statusAction_changed (o : NoOps) : Changed i s (statusAction o s).state := Changed.same.link rfl

theorem identAction_changed (o : NoOps) : Changed i s (identAction o s).state := .same

theorem noteAction_changed (o : NoteOps) : Changed i s (noteAction o s).state := by
  unfold noteAction
  split
  · exact .same
  · exact Changed.same.link rfl

theorem linesAction_changed (o : LinesOps) : Changed i s (linesAction o s).state := by
  unfold linesAction
  split
  · exact (Change.lines ..).changed
  · exact .same

theorem saveAction_changed (tag : Byte) (o : NoOps) : Changed i s (saveAction tag o s).state := by
  unfold saveAction
  split
  · exact .same
  · next hidle =>
    split
    · exact .same
    · next g hg =>
      have hmem := List.mem_of_find?_eq_some hg
      have hnew := List.find?_some hg
      exact (Change.save g tag (by simpa using hidle) hmem (by simpa using hnew)).changed.link rfl

theorem resetAction_changed (o : NoOps) : Changed i s (resetAction o s).state :=
  (Change.reset _ _ _ (.inr rfl) (.inr rfl)).changed

theorem withOps_changed {α : Type} (body : Body α) {act : α → State → Answer}
    (h : ∀ o, body = .ops o → Changed i s (act o s).state) : Changed i s (withOps body act s).state := by
  cases body with
  | ops o => exact h o rfl
  | malformed bytes => exact .same

end

/-! ## The changes of a step -/

/-- A request changes what its action changes, after the head of the input record queue is taken, or the link alone. -/
theorem serve_changed {i : Instr} {s t : State} {f : Frame} {act : State → Answer}
    (h : s.serve f act = .next t) (hact : Changed i s.dropHead (act s.dropHead).state) :
    ∃ s0, SameButLink s s0 ∧ Changed i s0 t := by
  rcases State.serve_cases s f act with ⟨-, hs⟩ | ⟨-, -, hs⟩ | ⟨-, -, hs⟩ <;>
    rw [hs, Host.Outcome.next.injEq] at h <;> subst h
  · exact ⟨_, State.dropHead_link s, hact.link (Answer.finish_link ..)⟩
  · exact ⟨_, .refl s, .same⟩
  · exact ⟨_, .refl s, Changed.same.link rfl⟩

/-- What a command that answers a next state changes. -/
theorem exec_changed {i : Instr} {s t : State} (h : exec i s = .next t) : ∃ s0, SameButLink s s0 ∧ Changed i s0 t := by
  have hev : ∀ {u : State}, Host.Outcome.next (φ := Fault) (ρ := Refusal) u = .next t → Changed i s u →
      ∃ s0, SameButLink s s0 ∧ Changed i s0 t := fun he hu => by
    rw [Host.Outcome.next.injEq] at he
    exact ⟨s, .refl s, he ▸ hu⟩
  cases i with
  | format tag body => exact serve_changed h (withOps_changed _ _ _ fun o _ => formatAction_changed ..)
  | mode tag body => exact serve_changed h (withOps_changed _ _ _ fun o _ => modeAction_changed ..)
  | screen tag body => exact serve_changed h (withOps_changed _ _ _ fun o _ => screenAction_changed ..)
  | palette tag body => exact serve_changed h (withOps_changed _ _ _ fun o _ => paletteAction_changed ..)
  | style tag body => exact serve_changed h (withOps_changed _ _ _ fun o _ => styleAction_changed ..)
  | fontarea tag body => exact serve_changed h (withOps_changed _ _ _ fun o _ => fontareaAction_changed ..)
  | glyphs tag body =>
    exact serve_changed h (withOps_changed _ _ _ fun o ho => glyphsAction_changed _ _ tag o (by rw [ho]))
  | page tag body => exact serve_changed h (withOps_changed _ _ _ fun o _ => pageAction_changed ..)
  | unpage tag body => exact serve_changed h (withOps_changed _ _ _ fun o _ => unpageAction_changed ..)
  | text tag body => exact serve_changed h (withOps_changed _ _ _ fun o _ => textAction_changed ..)
  | fill tag body => exact serve_changed h (withOps_changed _ _ _ fun o _ => fillAction_changed ..)
  | qcells tag body => exact serve_changed h (withOps_changed _ _ _ fun o _ => qcellsAction_changed ..)
  | pane tag body => exact serve_changed h (withOps_changed _ _ _ fun o _ => paneAction_changed ..)
  | scroll tag body => exact serve_changed h (withOps_changed _ _ _ fun o _ => scrollAction_changed ..)
  | clip tag body => exact serve_changed h (withOps_changed _ _ _ fun o _ => clipAction_changed ..)
  | crawl tag body => exact serve_changed h (withOps_changed _ _ _ fun o _ => crawlAction_changed ..)
  | crawlctl tag body => exact serve_changed h (withOps_changed _ _ _ fun o _ => crawlctlAction_changed ..)
  | define tag body => exact serve_changed h (withOps_changed _ _ _ fun o _ => defineAction_changed ..)
  | drop tag body => exact serve_changed h (withOps_changed _ _ _ fun o _ => dropAction_changed ..)
  | layout tag body => exact serve_changed h (withOps_changed _ _ _ fun o _ => layoutAction_changed ..)
  | place tag body => exact serve_changed h (withOps_changed _ _ _ fun o _ => placeAction_changed ..)
  | unplace tag body => exact serve_changed h (withOps_changed _ _ _ fun o _ => unplaceAction_changed ..)
  | post tag body => exact serve_changed h (postAction_changed ..)
  | limit tag body => exact serve_changed h (withOps_changed _ _ _ fun o _ => limitAction_changed ..)
  | ack tag body => exact serve_changed h (withOps_changed _ _ _ fun o _ => ackAction_changed ..)
  | hold tag body => exact serve_changed h (withOps_changed _ _ _ fun o _ => holdAction_changed ..)
  | qslot tag body => exact serve_changed h (withOps_changed _ _ _ fun o _ => qslotAction_changed ..)
  | status tag body => exact serve_changed h (withOps_changed _ _ _ fun o _ => statusAction_changed ..)
  | ident tag body => exact serve_changed h (withOps_changed _ _ _ fun o _ => identAction_changed ..)
  | note tag body => exact serve_changed h (withOps_changed _ _ _ fun o _ => noteAction_changed ..)
  | lines tag body => exact serve_changed h (withOps_changed _ _ _ fun o _ => linesAction_changed ..)
  | save tag body => exact serve_changed h (withOps_changed _ _ _ fun o _ => saveAction_changed ..)
  | reset tag body => exact serve_changed h (withOps_changed _ _ _ fun o _ => resetAction_changed ..)
  | unknownKind kind tag bytes => exact serve_changed h .same
  | saveCompletion =>
    change execSaveCompletion s = .next t at h
    unfold execSaveCompletion at h
    split at h
    · next p hp => exact hev h ((Change.saved p hp).changed.link rfl)
    · exact hev h .same
  | frameStart =>
    change execFrameStart s = .next t at h
    unfold execFrameStart at h
    split at h
    · next hb =>
      split at h
      · next hp => exact hev h (Change.frameStart hb hp).changed
      · next hp => exact hev h (Change.sleepEntry hb hp).changed
    · exact hev h .same
  | commitStep =>
    change execCommitStep s = .next t at h
    unfold execCommitStep at h
    split at h
    · next hc => exact hev h (Change.commitStep hc).changed
    · exact hev h .same
  | scanStart =>
    change execScanStart s = .next t at h
    unfold execScanStart at h
    split at h
    · next hd => exact hev h (Change.scanStart hd).changed
    · exact hev h .same
  | sleepEntry =>
    change execSleepEntry s = .next t at h
    unfold execSleepEntry at h
    split at h
    · next hp => exact hev h (Change.sleepEntry hp.1 hp.2).changed
    · exact hev h .same
  | rxdByte byte stopLow => exact hev h (Changed.same.link rfl)
  | gapTimerExpiry =>
    change execGapTimerExpiry s = .next t at h
    unfold execGapTimerExpiry at h
    split at h
    · exact hev h (Changed.same.link rfl)
    · exact hev h .same
  | transmitStart hrdy =>
    change execTransmitStart hrdy s = .next t at h
    unfold execTransmitStart at h
    simp only at h
    split at h
    · exact hev h (Changed.same.link rfl)
    · exact hev h (Changed.same.link rfl)
  | transmitEnd =>
    change execTransmitEnd s = .next t at h
    unfold execTransmitEnd at h
    split at h
    · exact hev h (Changed.same.link rfl)
    · exact hev h .same
  | linePinChange line level => exact hev h (Change.pinChange _ _ line.isLt).changed
  | debounceExpiry line =>
    change execDebounceExpiry line s = .next t at h
    unfold execDebounceExpiry at h
    split at h
    · next hd => exact hev h (Change.edge _ line.isLt hd).changed
    · exact hev h .same
  | powerOnReset => exact hev h (Change.reset _ _ _ (.inl rfl) (.inl rfl)).changed
  | hardReset => exact hev h (Change.reset _ _ _ (.inr rfl) (.inl rfl)).changed
  | rdyRise =>
    change execRdyRise s = .next t at h
    unfold execRdyRise at h
    split at h
    · exact hev h (Changed.same.link rfl)
    · exact hev h .same
    · exact hev h .same

/-- A property that the link has no part in. -/
def LinkFree (P : State → Prop) : Prop := ∀ s t, SameButLink s t → P s → P t

/-- What every change of a waiting command leads to from `P`, a step leads to from `P`; with none waiting it idles. -/
theorem step_leads {P Q : State → Prop} (hP : LinkFree P) (hQ : LinkFree Q) {s t : State}
    (hchange : ∀ i s0 u, i ∈ s.pending → P s0 → Change i s0 u → Q u) (hidle : P s → Q s) (hs : P s)
    (h : step s = .next t) : Q t := by
  cases hp : s.pending with
  | nil =>
    rw [step_nil s hp, Host.Outcome.next.injEq] at h
    exact h ▸ hidle hs
  | cons i rest =>
    rw [step_cons s i rest hp] at h
    obtain ⟨s0, h0, u, hu, ht⟩ := exec_changed h
    have hs0 : P s0 := hP s s0 (SameButLink.trans (t := { s with pending := rest }) rfl h0) hs
    exact hQ u t ht (hchange i s0 u (by simp [hp]) hs0 hu)

end Sys2Proof.Machine
end

-- ==== Proofs: properties kept by the parts of an event ====
section
/-!
SUPPORT. The events of the display, of the commit and of the lines are made of a few writes. A property that each of
these writes keeps (`Kept`) is kept by the events: said once here, for all laws that are of this kind.
-/

namespace Sys2Proof.Machine

/-! ## Reads across the frames of operations -/

theorem SameButCells.itb {s t : State} (h : SameButCells s t) : t.itb = s.itb := by rw [h]; rfl
theorem SameButCells.fau {s t : State} (h : SameButCells s t) : t.fau = s.fau := by rw [h]; rfl
theorem SameButFlash.itb {s t : State} (h : SameButFlash s t) : t.itb = s.itb := by rw [h]
theorem SameButFlash.gcu {s t : State} (h : SameButFlash s t) : t.gcu = s.gcu := by rw [h]
theorem SameButFlash.pages {s t : State} (h : SameButFlash s t) : t.cst.pages = s.cst.pages := by rw [h]
theorem SameButFlash.alerts_eq {s t : State} (h : SameButFlash s t) : t.fau.alerts = s.fau.alerts := by rw [h]

theorem SameButFlash.slot {s t : State} (h : SameButFlash s t) (n : Nat) : t.slot n = s.slot n :=
  State.slot_congr (by rw [h.itb]) n

theorem SameButCells.slot {s t : State} (h : SameButCells s t) (n : Nat) : t.slot n = s.slot n := h.flash.slot n

/-- The placements stand at every stage of painting or blanking them: what each one keeps, their list keeps. -/
theorem foldl_placements {P : State → Prop} {f : State → Placement → State} {n : Nat}
    (hframe : ∀ s p, SameButCells s (f s p)) (hf : ∀ s p, P s → p ∈ (s.slot n).placements → P (f s p))
    (ps : List Placement) (s : State) (hs : P s) (hps : ∀ p ∈ ps, p ∈ (s.slot n).placements) :
    P (ps.foldl f s) := by
  induction ps generalizing s with
  | nil => exact hs
  | cons p ps ih =>
    refine ih (f s p) (hf s p hs (hps p (by simp))) fun q hq => ?_
    rw [(hframe s p).slot]
    exact hps q (by simp [hq])

/-! ## The parts of PLACE and UNPLACE -/

/-- An accepted PLACE before its painting: the record joins the list, and the spans of the slot's entries follow
(R33). -/
def State.listPlacement (s : State) (n : Nat) (p : Placement) : State :=
  let s1 := s.setSlot n { s.slot n with placements := (s.slot n).placements ++ [p] }
  s1.setFau { s1.fau with flash := Table.adjust none (fun _ e => s1.extendSpans n p e) s1.fau.flash }

theorem State.addPlacement_eq (s : State) (n : Nat) (p : Placement) :
    s.addPlacement n p = (s.listPlacement n p).paint n p := rfl

/-- An accepted UNPLACE after its blanking: the entries of the slot lose the span, and the record leaves the list
(R35). -/
def State.unlistPlacement (s : State) (n i : Nat) : State :=
  let s1 := s.setFau { s.fau with flash := Table.adjust none (fun _ e => s.cutSpans n i e) s.fau.flash }
  s1.setSlot n { s.slot n with placements := (s.slot n).placements.eraseIdx i }

theorem State.removePlacement_eq (s : State) (n i : Nat) (p : Placement) :
    s.removePlacement n i p = (s.blankPlacement p).unlistPlacement n i := rfl

/-- Extending spans changes nothing else of an entry. -/
theorem State.mem_extendSpans {s : State} {n : Nat} {p : Placement} {e : Option FlashEntry} {x : FlashEntry}
    (hx : x ∈ s.extendSpans n p e) : ∃ y ∈ e, x = { y with spans := x.spans } := by
  cases e with
  | none => exact nomatch hx
  | some y =>
    unfold State.extendSpans at hx
    simp only at hx
    split at hx <;> rw [Option.mem_some_iff] at hx <;> exact ⟨y, rfl, hx ▸ rfl⟩

/-- Cutting spans changes nothing else of an entry. -/
theorem State.mem_cutSpans {s : State} {n i : Nat} {e : Option FlashEntry} {x : FlashEntry}
    (hx : x ∈ s.cutSpans n i e) : ∃ y ∈ e, x = { y with spans := x.spans } := by
  cases e with
  | none => exact nomatch hx
  | some y =>
    unfold State.cutSpans at hx
    simp only at hx
    split at hx <;> rw [Option.mem_some_iff] at hx <;> exact ⟨y, rfl, hx ▸ rfl⟩

/-! ## The parts of the events -/

/-- The property is kept by the parts that the events are made of. -/
structure EventKept (P : State → Prop) : Prop where
  link : LinkFree P
  dtg : ∀ s d, P s → P (s.setDtg d)
  cme : ∀ s c, P s → P (s.setCme c)
  load : ∀ s reformat, P s → P (s.setSco (s.sco.load reformat))
  advance : ∀ s w, P s → P (s.setSco (s.sco.advance w))
  clean : ∀ s, P s → P (s.setUpq s.upq.frameStart)
  aged : ∀ s now, P s → P (s.setSlots (Table.adjust .empty (fun _ r => r.aged now) s.itb.slots))
  paint : ∀ s n p, P s → p ∈ (s.slot n).placements → P (s.paint n p)
  decay : ∀ s, P s → P s.decay
  take : ∀ s n, P s → P (s.take n)
  acknowledge : ∀ s n side, P s → P (s.acknowledge n side)
  line : ∀ s l x, P s → l < 4 → x.edges ≤ 65535 → P (s.setLine l x)

/-- Painting every placement of a slot, where painting each one keeps the property. -/
theorem paintSlot_keeps {P : State → Prop} {n : Nat}
    (hP : ∀ s p, P s → p ∈ (s.slot n).placements → P (s.paint n p)) (s : State) (hs : P s) : P (s.paintSlot n) :=
  foldl_placements (fun _ _ => State.writePlacement_frame ..) hP _ s hs fun _ h => h

namespace EventKept

variable {P : State → Prop} (hP : EventKept P)
include hP

theorem notices {s t : State} (h : SameButNotices s t) (hs : P s) : P t := hP.link s t h.link hs

theorem ageSlots (s : State) (now : FrameNo) (hs : P s) : P (s.ageSlots now) := by
  have h1 := hP.aged s now hs
  unfold State.ageSlots
  simp only
  split
  · exact List.foldlRecOn _ _ h1 fun s hs n _ => paintSlot_keeps (fun s p => hP.paint s n p) s hs
  · exact List.foldlRecOn _ _ (hP.link _ _ rfl h1) fun s hs n _ => paintSlot_keeps (fun s p => hP.paint s n p) s hs

theorem acknowledgeHead (s : State) (hs : P s) : P s.acknowledgeHead := by
  unfold State.acknowledgeHead
  split
  · exact hs
  · exact hP.acknowledge _ _ _ hs

/-! ## The events -/

theorem endCommit (s : State) (hs : P s) : P s.endCommit :=
  hP.notices (State.frameNotice_frame ..) (hP.cme _ _ hs)

theorem commitStep (s : State) (hs : P s) : P s.commitStep := by
  unfold State.commitStep
  split
  · exact hP.endCommit s hs
  · split
    · exact hP.take _ _ hs
    · exact hP.endCommit s hs

theorem scanStart (s : State) (hs : P s) : P s.scanStart := by
  have h1 := hP.dtg s { s.dtg with phase := .scan } hs
  unfold State.scanStart
  simp only
  split
  · exact hP.endCommit _ h1
  · exact h1

theorem frameStart (s : State) (hs : P s) : P s.frameStart := by
  have h3 : ∀ f c, P ((((s.setDtg s.dtg.frameStart).setFli f).setUpq s.upq.frameStart).setCme c) :=
    fun f c => hP.cme _ _ (hP.clean _ (hP.link _ _ (State.setFli_link _ f) (hP.dtg _ _ hs)))
  unfold State.frameStart
  cases s.held
  · simp only [Bool.false_eq_true, if_false]
    exact hP.advance _ _ (hP.load _ _ (hP.ageSlots _ _ (hP.decay _ (h3 _ _))))
  · simp only [if_true]
    refine hP.load _ _ ?_
    unfold State.heldNotice
    split
    · split
      · exact hP.notices (State.frameNotice_frame ..) (h3 _ _)
      · exact hP.notices (State.frameNotice_frame ..) (hP.link _ _ rfl (h3 _ _))
    · exact h3 _ _

theorem debouncedEdge (s : State) (l : Nat) (hl : l < 4) (hs : P s) : P (s.debouncedEdge l) := by
  have h1 : P (s.setLine l (s.line l).edge) := hP.line _ _ _ hs hl (Nat.min_le_right ..)
  unfold State.debouncedEdge
  simp only
  split
  · unfold State.ackEdge
    split
    · exact hP.notices (State.lineNotice_frame ..) h1
    · have h2 := hP.acknowledgeHead _ h1
      simp only
      split
      · split
        · exact hP.notices (State.lineNotice_frame ..)
            (hP.notices (State.alertNotice_frame ..) (hP.link _ _ rfl h2))
        · exact hP.notices (State.alertNotice_frame ..)
            (hP.notices (State.lineNotice_frame ..) (hP.link _ _ rfl h2))
      · exact hP.notices (State.lineNotice_frame ..) (hP.notices (State.alertNotice_frame ..) h2)
  · exact hP.notices (State.lineNotice_frame ..) h1

end EventKept

/-! ## The writes -/

/-- The property is kept by each write that the events are made of. -/
structure Kept (P : State → Prop) : Prop where
  link : LinkFree P
  dtg : ∀ s d, P s → P (s.setDtg d)
  cme : ∀ s c, P s → P (s.setCme c)
  load : ∀ s reformat, P s → P (s.setSco (s.sco.load reformat))
  advance : ∀ s w, P s → P (s.setSco (s.sco.advance w))
  clean : ∀ s, P s → P (s.setUpq s.upq.frameStart)
  removed : ∀ s n dirty, P s →
    P (s.setUpq { s.upq with pool := Table.clearRun s.upq.pool (poolKey n 0) 8, dirty := dirty })
  taken : ∀ s n es frame, P s → P (s.setSlot n ((s.slot n).taken es frame))
  emptied : ∀ s n, P s → P (s.setSlot n .empty)
  aged : ∀ s now, P s → P (s.setSlots (Table.adjust .empty (fun _ r => r.aged now) s.itb.slots))
  limit : ∀ s n side l, P s → P (s.setSlot n ((s.slot n).setLimit side l))
  paint : ∀ s n p, P s → p ∈ (s.slot n).placements → P (s.paint n p)
  blank : ∀ s n p, P s → p ∈ (s.slot n).placements → P (s.blankPlacement p)
  alerts : ∀ s as, P s → P (s.setFau { s.fau with alerts := as })
  ended : ∀ s i, P s → P (s.endFlash i)
  recoloured : ∀ s i e kind c k, P s → s.flashEntry i = some e →
    P (s.putFlash i { e with kind := kind, colour := (s.style c).moveColour k })
  alarmed : ∀ s i e kind c, P s → s.flashEntry i = some e →
    P (s.putFlash i { e with kind := kind, colour := (s.style c).alert })
  spent : ∀ s i e kind, P s → s.flashEntry i = some e →
    P (s.setFau { s.fau with flash := Table.set none s.fau.flash i (some { e with kind := kind }) })
  started : ∀ s e, P s → (∃ c, (∃ k, e.colour = (s.style c).moveColour k) ∨ e.colour = (s.style c).alert) →
    P (s.newFlash e)
  line : ∀ s l x, P s → l < 4 → x.edges ≤ 65535 → P (s.setLine l x)

namespace Kept

variable {P : State → Prop} (hP : Kept P)
include hP

/-! ## Flashes and limits -/

theorem notices {s t : State} (h : SameButNotices s t) (hs : P s) : P t := hP.link s t h.link hs

theorem movingStart (s : State) (n : Nat) (f : Field) (k : MoveKind) (hs : P s) : P (s.movingStart n f k) := by
  unfold State.movingStart
  simp only
  split
  · split
    · exact hs
    · exact hP.started _ _ hs ⟨_, .inl ⟨k, rfl⟩⟩
  · split
    · exact hs
    · next i _ e he =>
      split
      · split
        · exact hP.ended _ _ hs
        · exact hP.recoloured _ _ _ _ _ _ hs he
      · exact hs

theorem alertFlash (s : State) (n : Nat) (hs : P s) : P (s.alertFlash n) := by
  unfold State.alertFlash
  simp only
  split
  · exact hP.started _ _ hs ⟨_, .inr rfl⟩
  · split
    · exact hs
    · next he => exact hP.alarmed _ _ _ _ _ hs he

theorem fire (s : State) (n : Nat) (side : Side) (level v : Int) (hs : P s) : P (s.fire n side level v) :=
  hP.notices (State.alertNotice_frame ..) (hP.alertFlash _ _ (hP.alerts _ _ (hP.limit _ _ _ _ hs)))

theorem checkLimit (s : State) (n : Nat) (v : Int) (side : Side) (hs : P s) : P (s.checkLimit n v side) := by
  unfold State.checkLimit
  split
  · split
    · exact hP.fire _ _ _ _ _ hs
    · exact hs
  · exact hs
  · exact hs

theorem alertCheckOf (s : State) (n : Nat) (es : List (Field × Int)) (hs : P s) : P (s.alertCheckOf n es) := by
  unfold State.alertCheckOf
  split
  · exact hP.checkLimit _ _ _ _ (hP.checkLimit _ _ _ _ hs)
  · exact hs

theorem acknowledge (s : State) (n : Nat) (side : Side) (hs : P s) : P (s.acknowledge n side) := by
  have h2 := hP.limit _ n side .disarmed (hP.alerts s (s.fau.alerts.filter fun a => !a.names n side) hs)
  unfold State.acknowledge State.endAlertFlash
  simp only
  split
  · exact h2
  · split
    · exact h2
    · split
      · exact hP.ended _ _ h2
      · exact h2

theorem decay (s : State) (hs : P s) : P s.decay := by
  refine List.foldlRecOn _ _ hs fun s hs i _ => ?_
  unfold State.decayEntry
  split
  · exact hs
  · next e he =>
    split
    · exact hs
    · split
      · exact hs
      · split
        · exact hP.ended _ _ hs
        · exact hP.spent _ _ _ _ hs he

/-! ## Taking and dropping -/

theorem take (s : State) (n : Nat) (hs : P s) : P (s.take n) :=
  paintSlot_keeps (fun s p => hP.paint s n p) _ (List.foldlRecOn _ _
    (hP.alertCheckOf _ _ _ (hP.taken _ n _ _ (hP.cme _ _ (hP.removed s n _ hs))))
    fun s hs m _ => hP.movingStart s n m.1 m.2 hs)

theorem dropSlot (s : State) (n : Nat) (hs : P s) : P (s.dropSlot n) :=
  hP.emptied _ _ (foldl_placements (fun _ _ => State.blankPlacement_frame ..) (fun s p => hP.blank s n p) _ _
    (hP.alerts _ _ (List.foldlRecOn _ _ (hP.removed s n _ hs) fun s hs i _ => hP.ended s i hs)) fun _ h => h)

theorem eventKept : EventKept P :=
  { hP with decay := hP.decay, take := hP.take, acknowledge := hP.acknowledge }

end Kept

end Sys2Proof.Machine
end

-- ==== Proofs: the canonical form ====
section
/-!
SUPPORT and O54. Every table keeps its canonical form: first the writes of each block, then the events made of them,
then every change a command makes.
-/

namespace Sys2Proof.Machine

/-- The canonical form with its parts named, slots and generations read by number. -/
structure Canonical (s : State) : Prop where
  cells : Table.wf .blank s.cst.cells = true
  pages : Table.wf none s.cst.pages = true
  slots : Table.wf .empty s.itb.slots = true
  records : ∀ n, (s.slot n).canonical
  layouts : Table.wf none s.itb.layouts = true
  pool : Table.wf none s.upq.pool = true
  flash : Table.wf none s.fau.flash = true
  staged : Table.wf .hidden s.sco.staged.panes = true
  active : Table.wf .hidden s.sco.active.panes = true
  glyphs : Table.wf 0 s.gcu.glyphs = true
  areas : Table.wf .disabled s.gcu.areas = true
  palette : Table.wf black s.gcu.palette = true
  styles : Table.wf .factory s.gcu.styles = true
  lines : Table.wf .idle s.lnu.lines = true
  gens : Table.wf .unused s.pst.gens = true
  done : ∀ g, ∀ p ∈ (s.gen g).done, p.canonical
  programming : ∀ q ∈ s.pst.programming, q.data.canonical

theorem Slot.empty_canonical : Slot.empty.canonical := ⟨rfl, rfl⟩

theorem canonical_iff (s : State) : s.canonical ↔ Canonical s := by
  have hrec : Table.wf Slot.empty s.itb.slots = true →
      ((∀ e ∈ s.itb.slots, e.2.canonical) ↔ ∀ n, (s.slot n).canonical) := fun h => by
    rw [Table.forall_mem_iff h fun _ r => r.canonical]
    refine ⟨fun hr n => ?_, fun hr n _ => hr n⟩
    by_cases hn : s.slot n = .empty
    · exact hn ▸ Slot.empty_canonical
    · exact hr n hn
  have hgen : Table.wf Generation.unused s.pst.gens = true →
      ((∀ e ∈ s.pst.gens, ∀ p ∈ e.2.done, p.canonical) ↔ ∀ g, ∀ p ∈ (s.gen g).done, p.canonical) := fun h => by
    rw [Table.forall_mem_iff h fun _ g => ∀ p ∈ g.done, p.canonical]
    refine ⟨fun hr g => ?_, fun hr g _ => hr g⟩
    by_cases hg : s.gen g = .unused
    · simp [hg, Generation.unused]
    · exact hr g hg
  constructor
  · rintro ⟨h1, h2, h3, h4, h5, h6, h7, h8, h9, h10, h11, h12, h13, h14, h15, h16, h17⟩
    exact ⟨h1, h2, h3, (hrec h3).mp h4, h5, h6, h7, h8, h9, h10, h11, h12, h13, h14, h15, (hgen h15).mp h16, h17⟩
  · intro h
    exact ⟨h.cells, h.pages, h.slots, (hrec h.slots).mpr h.records, h.layouts, h.pool, h.flash, h.staged, h.active,
      h.glyphs, h.areas, h.palette, h.styles, h.lines, h.gens, (hgen h.gens).mpr h.done, h.programming⟩

namespace Canonical

variable {s : State} (h : Canonical s)
include h

/-! ## The writes -/

theorem profile : s.currentProfile.canonical := ⟨h.palette, h.styles⟩

theorem setCells {t : Table Cell} (ht : Table.wf .blank t = true) : Canonical (s.setCells t) := { h with cells := ht }

theorem setPages {t : Table (Option Page)} (ht : Table.wf none t = true) : Canonical (s.setPages t) :=
  { h with pages := ht }

theorem setSlots {t : Table Slot} (ht : Table.wf .empty t = true) (hr : ∀ n, (Table.get .empty t n).canonical) :
    Canonical (s.setSlots t) := { h with slots := ht, records := hr }

theorem setSlot (n : Nat) {r : Slot} (hr : r.canonical) : Canonical (s.setSlot n r) :=
  h.setSlots (Table.wf_set h.slots n r) fun m => by
    rw [Table.get_set]
    split
    · exact hr
    · exact h.records m

theorem setUpq {u : Upq} (hu : Table.wf none u.pool = true) : Canonical (s.setUpq u) := { h with pool := hu }

theorem setFau {f : Fau} (hf : Table.wf none f.flash = true) : Canonical (s.setFau f) := { h with flash := hf }

theorem setSco {c : Sco} (hs : Table.wf .hidden c.staged.panes = true) (ha : Table.wf .hidden c.active.panes = true) :
    Canonical (s.setSco c) := { h with staged := hs, active := ha }

theorem setPst {p : Pst} (hg : Table.wf .unused p.gens = true)
    (hd : ∀ g, ∀ q ∈ (Table.get .unused p.gens g).done, q.canonical) (hp : ∀ q ∈ p.programming, q.data.canonical) :
    Canonical (s.setPst p) := { h with gens := hg, done := hd, programming := hp }

theorem writeCells (a : Nat) (cs : List Cell) : Canonical (s.writeCells a cs) :=
  h.setCells (Table.wf_writeRun h.cells a cs)

theorem writePlacement (mk : State → Column → List Cell) (p : Placement) : Canonical (s.writePlacement mk p) := by
  unfold State.writePlacement
  split
  · exact List.foldlRecOn _ _ h fun _ ht _ _ => ht.writeCells _ _
  · exact h

theorem fillRect (pg : Page) (top left rows cols : Nat) (c : Cell) :
    Canonical (s.fillRect pg top left rows cols c) :=
  List.foldlRecOn _ _ h fun _ ht _ _ => ht.writeCells _ _

theorem endFlash (i : Nat) : Canonical (s.endFlash i) := by
  unfold State.endFlash
  split
  · exact (h.setCells (Table.wf_adjust h.cells _)).setFau (Table.wf_set h.flash i none)
  · exact h

theorem putFlash (i : Nat) (e : FlashEntry) : Canonical (s.putFlash i e) := h.setFau (Table.wf_set h.flash i _)

theorem newFlash (e : FlashEntry) : Canonical (s.newFlash e) := by
  unfold State.newFlash
  split
  · exact h.putFlash _ _
  · split
    · exact (h.endFlash _).putFlash _ _
    · exact h

theorem listPlacement (n : Nat) (p : Placement) : Canonical (s.listPlacement n p) := by
  have h1 := h.setSlot n (r := { s.slot n with placements := (s.slot n).placements ++ [p] }) (h.records n)
  refine h1.setFau ?_
  exact Table.wf_adjust h.flash fun _ e => (s.setSlot n _).extendSpans n p e

theorem unlistPlacement (n k : Nat) : Canonical (s.unlistPlacement n k) := by
  refine Canonical.setSlot (h.setFau ?_) n (h.records n)
  exact Table.wf_adjust h.flash fun _ e => s.cutSpans n k e

theorem setLine (l : Nat) (x : Line) : Canonical (s.setLine l x) := { h with lines := Table.wf_set h.lines l x }

end Canonical

/-! ## Slot records -/

theorem Slot.store_canonical {r : Slot} (h : r.canonical) (e : Field × Int) : (r.store e).canonical := by
  refine ⟨Table.wf_set h.1 _ _, ?_⟩
  unfold Slot.store
  simp only
  split
  · exact Table.wf_set h.2 _ _
  · exact h.2

theorem Slot.taken_canonical {r : Slot} (h : r.canonical) (es : List (Field × Int)) (frame : FrameNo) :
    (r.taken es frame).canonical :=
  List.foldlRecOn (motive := Slot.canonical) es Slot.store h fun _ hr e _ => Slot.store_canonical hr e

/-- Ageing changes the age and the state of a record only. -/
theorem Slot.aged_eq (r : Slot) (now : FrameNo) :
    r.aged now = { r with age := (r.aged now).age, state := (r.aged now).state } := by
  unfold Slot.aged
  split
  · split <;> rfl
  · rfl

/-- A free record does not age. -/
theorem Slot.aged_empty (now : FrameNo) : Slot.empty.aged now = .empty := rfl

theorem Slot.aged_canonical {r : Slot} (h : r.canonical) (now : FrameNo) : (r.aged now).canonical := by
  rw [Slot.aged_eq]
  exact h

/-- Replacing a limit changes the two limits of a record only. -/
theorem Slot.setLimit_eq (r : Slot) (side : Side) (l : Limit) :
    r.setLimit side l = { r with high := (r.setLimit side l).high, low := (r.setLimit side l).low } := by
  cases side <;> rfl

theorem Slot.setLimit_canonical {r : Slot} (h : r.canonical) (side : Side) (l : Limit) :
    (r.setLimit side l).canonical := by
  rw [Slot.setLimit_eq]
  exact h

/-! ## Composition -/

theorem Sco.advance_compositions (c : Sco) (w : Nat) :
    (c.advance w).staged = c.staged ∧ (c.advance w).active = c.active := by
  unfold Sco.advance
  split
  · exact ⟨rfl, rfl⟩
  · next p _ =>
    split
    · exact ⟨rfl, rfl⟩
    · split
      · exact ⟨rfl, rfl⟩
      · rcases Sco.crawlStep_cases { c with offset := c.offset + c.speed - w } p.cols with
          ⟨-, h⟩ | ⟨-, -, h⟩ | ⟨-, -, -, h⟩ | ⟨-, -, -, h⟩ <;> rw [h] <;> exact ⟨rfl, rfl⟩

/-! ## Profiles -/

theorem Profile.factory_canonical : Profile.factory.canonical := by
  unfold Profile.canonical
  decide

/-- The profile a reset loads is the factory profile or that of a done generation. -/
theorem State.loadProfile_cases (s : State) :
    s.loadProfile = .factory ∨ ∃ g, (s.gen g).done = some s.loadProfile := by
  unfold State.loadProfile
  split
  · next g _ =>
    cases hd : (s.gen g).done with
    | none => exact .inl rfl
    | some p => exact .inr ⟨g, hd⟩
  · exact .inl rfl

theorem Canonical.loadProfile {s : State} (h : Canonical s) : s.loadProfile.canonical := by
  rcases s.loadProfile_cases with hf | ⟨g, hg⟩
  · exact hf ▸ Profile.factory_canonical
  · exact h.done g _ hg

/-! ## The events and the commands -/

theorem canonical_linkFree : LinkFree Canonical := fun s t h hs => by
  rw [h]
  exact { hs with }

theorem canonical_kept : Kept Canonical where
  link := canonical_linkFree
  dtg _ _ h := { h with }
  cme _ _ h := { h with }
  load _ _ h := h.setSco h.staged h.staged
  advance s w h := by
    obtain ⟨h1, h2⟩ := s.sco.advance_compositions w
    exact h.setSco (h1 ▸ h.staged) (h2 ▸ h.active)
  clean s h := by
    refine h.setUpq ?_
    unfold Upq.frameStart
    split <;> exact h.pool
  removed _ _ _ h := h.setUpq (Table.wf_clearRun h.pool _ _)
  taken _ n _ _ h := h.setSlot n (Slot.taken_canonical (h.records n) _ _)
  emptied _ n h := h.setSlot n Slot.empty_canonical
  aged _ now h := h.setSlots (Table.wf_adjust h.slots _) fun n => by
    rw [Table.get_adjust h.slots (fun _ r => r.aged now) fun _ => Slot.aged_empty now]
    exact Slot.aged_canonical (h.records n) now
  limit _ n _ _ h := h.setSlot n (Slot.setLimit_canonical (h.records n) _ _)
  paint _ _ _ h _ := h.writePlacement _ _
  blank _ _ _ h _ := h.writePlacement _ _
  alerts _ _ h := h.setFau h.flash
  ended _ i h := h.endFlash i
  recoloured _ i _ _ _ _ h _ := h.putFlash i _
  alarmed _ i _ _ _ h _ := h.putFlash i _
  spent _ i _ _ h _ := h.setFau (Table.wf_set h.flash i _)
  started _ e h _ := h.newFlash e
  line _ l x h _ _ := h.setLine l x

theorem applyPairs_wf {pool : Table (Option Int)} (h : Table.wf none pool = true) (n : Nat) (ps : List PairOps) :
    Table.wf none (applyPairs n pool ps) = true :=
  List.foldlRecOn (motive := fun t => Table.wf none t = true) ps _ h fun _ ht _ _ => Table.wf_set ht _ _

/-- Every change a command makes keeps every table in its canonical form. -/
theorem Change.canonical {i : Instr} {s t : State} (hc : Change i s t) (h : Canonical s) : Canonical t := by
  cases hc with
  | same => exact h
  | format f => exact { h with }
  | mode a c p => exact { h with }
  | screen => exact { h with }
  | palette => exact { h with palette := Table.wf_writeRun h.palette _ _ }
  | style => exact { h with styles := Table.wf_set h.styles _ _ }
  | fontarea => exact { h with areas := Table.wf_set h.areas _ _ }
  | glyphs => exact { h with glyphs := Table.wf_writeRun h.glyphs _ _ }
  | page => exact (h.setPages (Table.wf_set h.pages _ _)).setCells (Table.wf_clearRun h.cells _ _)
  | unpage => exact h.setPages (Table.wf_set h.pages _ _)
  | text => exact h.writeCells _ _
  | fill => exact h.fillRect _ _ _ _ _ _
  | pane => exact h.setSco (Table.wf_set h.staged _ _) h.active
  | scroll => exact h.setSco (Table.wf_set h.staged _ _) h.active
  | clip second w => cases second <;> exact h.setSco h.staged h.active
  | crawl text => exact h.setSco h.staged h.active
  | crawlctl speed blank clear => cases clear <;> exact h.setSco h.staged h.active
  | define n => exact h.setSlot n Slot.empty_canonical
  | drop n => exact canonical_kept.dropSlot s n h
  | layout => exact { h with layouts := Table.wf_set h.layouts _ _ }
  | place n p => exact (h.listPlacement n p).writePlacement _ p
  | unplace n k p => exact (h.writePlacement _ p).unlistPlacement n k
  | post n ps => exact (h.setUpq (applyPairs_wf h.pool n ps)).setSlot n (h.records n)
  | pendingFull => exact h.setUpq h.pool
  | limit n side l => exact h.setSlot n (Slot.setLimit_canonical (h.records n) side l)
  | ack n side => exact canonical_kept.acknowledge s n side h
  | hold v => exact { h with }
  | qslot n => exact h.setSlot n (h.records n)
  | lines => exact { h with lines := Table.wf_writeRun h.lines _ _ }
  | save g tag =>
    refine h.setPst (Table.wf_set h.gens _ _) (fun k => ?_) fun q hq => ?_
    · rw [Table.get_set]
      split
      · exact h.done g
      · exact h.done k
    · rw [Option.mem_some_iff] at hq
      exact hq ▸ h.profile
  | saved p hp =>
    refine h.setPst (Table.wf_set h.gens _ _) (fun k => ?_) (by simp)
    rw [Table.get_set]
    split
    · intro q hq
      rw [Option.mem_some_iff] at hq
      exact hq ▸ h.programming p hp
    · exact h.done k
  | reset glyphs f p hg hp =>
    exact
      { cells := rfl, pages := rfl, slots := rfl, layouts := rfl, pool := rfl, flash := rfl, staged := rfl,
        active := rfl, areas := rfl
        records := fun _ => Slot.empty_canonical
        glyphs := by
          rcases hg with rfl | rfl
          · rfl
          · exact h.glyphs
        palette := h.loadProfile.1
        styles := h.loadProfile.2
        lines := Table.wf_adjust h.lines fun _ x => x.afterReset
        gens := h.gens
        done := h.done
        programming := by
          rcases hp with rfl | rfl
          · exact fun q hq => nomatch hq
          · exact h.programming }
  | frameStart => exact canonical_kept.eventKept.frameStart s h
  | sleepEntry => exact { h with }
  | scanStart => exact canonical_kept.eventKept.scanStart s h
  | commitStep => exact canonical_kept.eventKept.commitStep s h
  | pinChange l level => exact h.setLine l _
  | edge l hl => exact canonical_kept.eventKept.debouncedEdge s l hl h

/-- Settles O54: every change of a waiting command keeps the canonical form. -/
theorem stepKeepsCanonicalForm : Obligations.StepKeepsCanonicalForm := by
  intro s t hs h
  rw [canonical_iff] at hs ⊢
  exact step_leads canonical_linkFree canonical_linkFree (fun _ _ _ _ h0 hc => hc.canonical h0) id hs h

end Sys2Proof.Machine
end

-- ==== Proofs: pages, layouts, placements, panes ====
section
/-!
SUPPORT and O57. The laws of pages, layouts and placements (`PageForm`) and of a copy of the composition (`CopyForm`),
read by number; the writes and the changes keep them.
-/

namespace Sys2Proof.Machine

/-! ## The laws by number -/

/-- The columns of a layout meet R26. -/
def columnsLaw (cs : List Column) : Prop :=
  1 ≤ cs.length ∧ cs.length ≤ 12 ∧ (∀ c ∈ cs, c.law) ∧
    cs.Pairwise fun a b => a.source ≠ b.source ∧ runsMeet a.offset a.width b.offset b.width = false

/-- A page in the ranges of R3. -/
def Page.law (p : Page) : Prop :=
  1 ≤ p.rows ∧ p.rows ≤ 128 ∧ 1 ≤ p.cols ∧ p.cols ≤ 200 ∧ p.base + p.size ≤ 24576

/-- The laws of pages, layouts and placements (R3, R26, R30), read by number. -/
structure PageForm (s : State) : Prop where
  pages : ∀ i p, s.page i = some p → i < 16 ∧ p.law
  apart : ∀ i j p q, i ≠ j → s.page i = some p → s.page j = some q → runsMeet p.base p.size q.base q.size = false
  layouts : ∀ l cs, s.layout l = some cs → l < 16 ∧ columnsLaw cs
  used : s.placementsUsed ≤ 512
  placed : ∀ n, ∀ p ∈ (s.slot n).placements, s.placed p

/-- The laws of a copy of the composition (R121, R122), read by number. -/
structure CopyForm (s : State) (c : Composition) : Prop where
  wf : Table.wf .hidden c.panes = true
  listed : ∀ p, c.pane p ≠ .hidden → p < 8
  panes : ∀ p, s.paneLaw (c.pane p)
  single : ∀ p q, (c.pane p).kind = .crawl → (c.pane q).kind = .crawl → p = q
  windows : ∀ w ∈ [c.w0, c.w1], w.top ≤ 63 ∧ w.left ≤ 159 ∧ w.rows ≤ 64 ∧ w.cols ≤ 160

theorem runsMeet_comm (a m b n : Nat) : runsMeet a m b n = runsMeet b n a m := Bool.and_comm ..

theorem runsMeet_eq_false {a m b n : Nat} : runsMeet a m b n = false ↔ b + n ≤ a ∨ a + m ≤ b := by
  simp only [runsMeet, Bool.and_eq_false_iff, decide_eq_false_iff_not, not_lt]

theorem pageLaw_iff {s : State} (h : Table.wf none s.cst.pages = true) :
    s.pageLaw ↔ (∀ i p, s.page i = some p → i < 16 ∧ p.law) ∧
      ∀ i j p q, i ≠ j → s.page i = some p → s.page j = some q → runsMeet p.base p.size q.base q.size = false := by
  have h1 : (∀ e ∈ s.cst.pages, e.1 < 16 ∧
      ∀ p ∈ e.2, 1 ≤ p.rows ∧ p.rows ≤ 128 ∧ 1 ≤ p.cols ∧ p.cols ≤ 200 ∧ p.base + p.size ≤ 24576) ↔
        ∀ i p, s.page i = some p → i < 16 ∧ p.law := by
    change (∀ e ∈ s.cst.pages, e.1 < 16 ∧ ∀ p ∈ e.2, p.law) ↔ _
    rw [Table.forall_mem_iff h fun k v => k < 16 ∧ ∀ p ∈ v, p.law]
    exact ⟨fun hg i p hp => (hg i (by simp [show Table.get none s.cst.pages i = some p from hp])).imp_right fun hv =>
      hv p hp, fun hg i hi => by
        obtain ⟨p, hp⟩ := Option.ne_none_iff_exists'.mp hi
        exact ⟨(hg i p hp).1, fun q hq => (hg i q hq).2⟩⟩
  have h2 := Table.pairwise_iff h (R := fun a b => ∀ p ∈ a, ∀ q ∈ b, runsMeet p.base p.size q.base q.size = false)
    fun a b hab p hp q hq => runsMeet_comm .. ▸ hab q hq p hp
  unfold State.pageLaw
  rw [h1, h2]
  exact ⟨fun ⟨_, hf, ha⟩ => ⟨hf, fun i j p q hij hp hq => ha i j hij
      (by simp [show Table.get none s.cst.pages i = some p from hp])
      (by simp [show Table.get none s.cst.pages j = some q from hq]) p hp q hq⟩,
    fun ⟨hf, ha⟩ => ⟨h, hf, fun i j hij _ _ p hp q hq => ha i j p q hij hp hq⟩⟩

theorem layoutLaw_iff {s : State} (h : Table.wf none s.itb.layouts = true) :
    s.layoutLaw ↔ ∀ l cs, s.layout l = some cs → l < 16 ∧ columnsLaw cs := by
  change _ ∧ (∀ e ∈ s.itb.layouts, e.1 < 16 ∧ ∀ cs ∈ e.2, columnsLaw cs) ↔ _
  rw [Table.forall_mem_iff h fun k v => k < 16 ∧ ∀ cs ∈ v, columnsLaw cs]
  exact ⟨fun ⟨_, hg⟩ l cs hl => (hg l (by simp [show Table.get none s.itb.layouts l = some cs from hl])).imp_right
      fun hv => hv cs hl,
    fun hg => ⟨h, fun l hl => by
      obtain ⟨cs, hcs⟩ := Option.ne_none_iff_exists'.mp hl
      exact ⟨(hg l cs hcs).1, fun q hq => (hg l q hq).2⟩⟩⟩

/-- What holds of the placements of every listed slot holds of those of every slot. -/
theorem forall_placements_iff {s : State} (h : Table.wf Slot.empty s.itb.slots = true) (Q : Placement → Prop) :
    (∀ e ∈ s.itb.slots, ∀ p ∈ e.2.placements, Q p) ↔ ∀ n, ∀ p ∈ (s.slot n).placements, Q p := by
  rw [Table.forall_mem_iff h fun _ r => ∀ p ∈ r.placements, Q p]
  refine ⟨fun hg n => ?_, fun hg n _ => hg n⟩
  by_cases hn : s.slot n = .empty
  · simp [hn, Slot.empty]
  · exact hg n hn

theorem anyPlacement_eq_false {s : State} (h : Table.wf Slot.empty s.itb.slots = true) (Q : Placement → Bool) :
    s.anyPlacement Q = false ↔ ∀ n, ∀ p ∈ (s.slot n).placements, Q p = false := by
  rw [← forall_placements_iff h fun p => Q p = false]
  simp [State.anyPlacement]

theorem pageForm_iff {s : State} (h : Canonical s) : s.pageLaw ∧ s.layoutLaw ∧ s.placementLaw ↔ PageForm s := by
  rw [pageLaw_iff h.pages, layoutLaw_iff h.layouts]
  unfold State.placementLaw
  rw [forall_placements_iff h.slots]
  exact ⟨fun ⟨⟨h1, h2⟩, h3, h4, h5⟩ => ⟨h1, h2, h3, h4, h5⟩, fun h => ⟨⟨h.pages, h.apart⟩, h.layouts, h.used, h.placed⟩⟩

theorem hidden_paneLaw (s : State) : s.paneLaw .hidden := by
  simp [State.paneLaw, Pane.hidden]

theorem copyLaw_iff {s : State} {c : Composition} : s.copyLaw c ↔ CopyForm s c := by
  have hkind : ∀ p, (c.pane p).kind = .crawl → Table.get .hidden c.panes p ≠ .hidden := fun p hp he => by
    rw [show c.pane p = .hidden from he] at hp
    exact PaneKind.noConfusion hp
  constructor
  · rintro ⟨hwf, hpanes, hone, hwin⟩
    rw [Table.forall_mem_iff hwf fun k v => k < 8 ∧ s.paneLaw v] at hpanes
    refine ⟨hwf, fun p hp => (hpanes p hp).1, fun p => ?_, fun p q hp hq => ?_, hwin⟩
    · by_cases hp : c.pane p = .hidden
      · exact hp ▸ hidden_paneLaw s
      · exact (hpanes p hp).2
    · exact hone _ (Table.mem_of_get_ne _ _ p (hkind p hp)) _ (Table.mem_of_get_ne _ _ q (hkind q hq)) hp hq
  · intro h
    refine ⟨h.wf, (Table.forall_mem_iff h.wf fun k v => k < 8 ∧ s.paneLaw v).mpr fun p hp => ⟨h.listed p hp, h.panes p⟩,
      fun a ha b hb hak hbk => h.single a.1 b.1 ?_ ?_, h.windows⟩
    · rwa [Composition.pane, Table.get_of_mem h.wf ha]
    · rwa [Composition.pane, Table.get_of_mem h.wf hb]

/-! ## Columns -/

theorem anyPair_eq_false {p : Column → Column → Bool} {cs : List Column} :
    anyPair p cs = false ↔ cs.Pairwise fun a b => p a b = false := by
  induction cs with
  | nil => simp [anyPair]
  | cons c cs ih => simp [anyPair, ih]

/-- No column reaches past the extent of its layout. -/
theorem le_extent {cs : List Column} {c : Column} (hc : c ∈ cs) : c.offset + c.width ≤ extent cs := by
  have hmax : ∀ (l : List Nat) (m : Nat), m ≤ l.foldl max m ∧ ∀ x ∈ l, x ≤ l.foldl max m := by
    intro l
    induction l with
    | nil => simp
    | cons a l ih =>
      intro m
      obtain ⟨h1, h2⟩ := ih (max m a)
      simp only [List.foldl_cons, List.mem_cons, forall_eq_or_imp]
      exact ⟨by omega, by omega, h2⟩
  exact (hmax _ 0).2 _ (List.mem_map_of_mem hc)

/-! ## The writes keep the laws -/

namespace PageForm

variable {s t : State}

/-- The laws read the page table and the instrument table only. -/
theorem congr (h : PageForm s) (hp : t.cst.pages = s.cst.pages) (hi : t.itb = s.itb) : PageForm t where
  pages i p hip := h.pages i p (State.page_congr hp i ▸ hip)
  apart i j p q hij hip hjq := h.apart i j p q hij (State.page_congr hp i ▸ hip) (State.page_congr hp j ▸ hjq)
  layouts l cs hl := h.layouts l cs (State.layout_congr (congrArg Itb.layouts hi) l ▸ hl)
  used := by
    unfold State.placementsUsed
    rw [hi]
    exact h.used
  placed n p hnp := by
    obtain ⟨pg, hpg, cs, hcs, hin⟩ := h.placed n p (State.slot_congr (congrArg Itb.slots hi) n ▸ hnp)
    exact ⟨pg, State.page_congr hp _ ▸ hpg, cs, State.layout_congr (congrArg Itb.layouts hi) _ ▸ hcs, hin⟩

theorem cells (h : PageForm s) (hc : SameButCells s t) : PageForm t := h.congr hc.flash.pages hc.itb

theorem flash (h : PageForm s) (hf : SameButFlash s t) : PageForm t := h.congr hf.pages hf.itb

/-- Records whose placements are among the old ones, in their order. -/
theorem setSlots (h : PageForm s) (hs : Table.wf Slot.empty s.itb.slots = true) {u : Table Slot}
    (hu : Table.wf Slot.empty u = true)
    (hsub : ∀ n, (Table.get .empty u n).placements.Sublist (s.slot n).placements) : PageForm (s.setSlots u) where
  pages := h.pages
  apart := h.apart
  layouts := h.layouts
  used := (Table.sum_le_sum hu hs (f := fun r => r.placements.length) rfl fun n => (hsub n).length_le).trans h.used
  placed n p hp := h.placed n p ((hsub n).subset hp)

theorem setSlot (h : PageForm s) (hs : Table.wf Slot.empty s.itb.slots = true) (n : Nat) {r : Slot}
    (hsub : r.placements.Sublist (s.slot n).placements) : PageForm (s.setSlot n r) :=
  h.setSlots hs (Table.wf_set hs n r) fun m => by
    rw [Table.get_set]
    split
    · next hm => exact hm ▸ hsub
    · exact List.Sublist.refl _

end PageForm

theorem Slot.taken_placements (r : Slot) (es : List (Field × Int)) (frame : FrameNo) :
    (r.taken es frame).placements = r.placements :=
  List.foldlRecOn (motive := fun x => x.placements = r.placements) es Slot.store rfl
    fun x h e _ => show (x.store e).placements = r.placements from h

theorem Slot.aged_placements (r : Slot) (now : FrameNo) : (r.aged now).placements = r.placements := by
  rw [Slot.aged_eq]

theorem Slot.setLimit_placements (r : Slot) (side : Side) (l : Limit) :
    (r.setLimit side l).placements = r.placements := by
  rw [Slot.setLimit_eq]

/-- The canonical form together with the laws of pages, layouts and placements is kept by the writes of the events. -/
theorem pageForm_kept : Kept fun s => Canonical s ∧ PageForm s where
  link s t h hs := ⟨canonical_linkFree s t h hs.1, hs.2.congr (by rw [h]) (by rw [h])⟩
  dtg s d h := ⟨canonical_kept.dtg s d h.1, h.2.congr rfl rfl⟩
  cme s c h := ⟨canonical_kept.cme s c h.1, h.2.congr rfl rfl⟩
  load s b h := ⟨canonical_kept.load s b h.1, h.2.congr rfl rfl⟩
  advance s w h := ⟨canonical_kept.advance s w h.1, h.2.congr rfl rfl⟩
  clean s h := ⟨canonical_kept.clean s h.1, h.2.congr rfl rfl⟩
  removed s n d h := ⟨canonical_kept.removed s n d h.1, h.2.congr rfl rfl⟩
  taken s n es f h := ⟨canonical_kept.taken s n es f h.1,
    h.2.setSlot h.1.slots n (by rw [Slot.taken_placements])⟩
  emptied s n h := ⟨canonical_kept.emptied s n h.1, h.2.setSlot h.1.slots n (List.nil_sublist _)⟩
  aged s now h := ⟨canonical_kept.aged s now h.1,
    h.2.setSlots h.1.slots (Table.wf_adjust h.1.slots fun _ r => r.aged now) fun n => by
      rw [Table.get_adjust h.1.slots (fun _ r => r.aged now) fun _ => Slot.aged_empty now, Slot.aged_placements]
      exact List.Sublist.refl _⟩
  limit s n side l h := ⟨canonical_kept.limit s n side l h.1,
    h.2.setSlot h.1.slots n (by rw [Slot.setLimit_placements])⟩
  paint s n p h hp := ⟨canonical_kept.paint s n p h.1 hp, h.2.cells (State.writePlacement_frame ..)⟩
  blank s n p h hp := ⟨canonical_kept.blank s n p h.1 hp, h.2.cells (State.writePlacement_frame ..)⟩
  alerts s as h := ⟨canonical_kept.alerts s as h.1, h.2.congr rfl rfl⟩
  ended s i h := ⟨canonical_kept.ended s i h.1, h.2.flash (State.endFlash_frame ..)⟩
  recoloured s i e kind c k h he := ⟨canonical_kept.recoloured s i e kind c k h.1 he, h.2.congr rfl rfl⟩
  alarmed s i e kind c h he := ⟨canonical_kept.alarmed s i e kind c h.1 he, h.2.congr rfl rfl⟩
  spent s i e kind h he := ⟨canonical_kept.spent s i e kind h.1 he, h.2.congr rfl rfl⟩
  started s e h he := ⟨canonical_kept.started s e h.1 he, h.2.flash (State.newFlash_frame ..)⟩
  line s l x h hl hx := ⟨canonical_kept.line s l x h.1 hl hx, h.2.congr rfl rfl⟩

/-! ## The changes keep the laws of pages, layouts and placements -/

section

variable {s : State}

theorem PageForm.definePage (h : PageForm s) {id : Nat} {pg : Page} (hid : id < 16) (hpg : pg.law)
    (hfree : s.page id = none) (hmeet : s.pageOverlap pg.base pg.size = false) (cells : Table Cell) :
    PageForm ((s.setPages (Table.set none s.cst.pages id (some pg))).setCells cells) := by
  have hget : ∀ i, ((s.setPages (Table.set none s.cst.pages id (some pg))).setCells cells).page i =
      if i = id then some pg else s.page i := fun i => Table.get_set ..
  have hmeet' : ∀ j q, s.page j = some q → runsMeet pg.base pg.size q.base q.size = false := fun j q hq => by
    have := (List.any_eq_false.mp hmeet) j (List.mem_range.mpr (h.pages j q hq).1)
    simpa [hq] using this
  refine ⟨fun i p hp => ?_, fun i j p q hij hp hq => ?_, h.layouts, h.used, fun n p hp => ?_⟩
  · rw [hget] at hp
    split at hp
    · next hi =>
      rw [Option.some.injEq] at hp
      exact hp ▸ hi ▸ ⟨hid, hpg⟩
    · exact h.pages i p hp
  · rw [hget] at hp hq
    split at hp <;> split at hq
    · omega
    · rw [Option.some.injEq] at hp
      exact hp ▸ hmeet' j q hq
    · rw [Option.some.injEq] at hq
      exact hq ▸ runsMeet_comm .. ▸ hmeet' i p hp
    · exact h.apart i j p q hij hp hq
  · obtain ⟨pg', hpg', hrest⟩ := h.placed n p hp
    have hne : p.page ≠ id := fun he => by
      rw [he, hfree] at hpg'
      exact nomatch hpg'
    exact ⟨pg', by rw [hget, if_neg hne]; exact hpg', hrest⟩

theorem PageForm.removePage (h : PageForm s) {id : Nat} (hplace : ∀ n, ∀ p ∈ (s.slot n).placements, p.page ≠ id) :
    PageForm (s.setPages (Table.set none s.cst.pages id none)) := by
  have hget : ∀ i, (s.setPages (Table.set none s.cst.pages id none)).page i = if i = id then none else s.page i :=
    fun i => Table.get_set ..
  have hold : ∀ i p, (s.setPages (Table.set none s.cst.pages id none)).page i = some p → s.page i = some p :=
    fun i p hp => by
      rw [hget] at hp
      split at hp
      · exact nomatch hp
      · exact hp
  refine ⟨fun i p hp => h.pages i p (hold i p hp), fun i j p q hij hp hq => h.apart i j p q hij (hold i p hp)
    (hold j q hq), h.layouts, h.used, fun n p hp => ?_⟩
  obtain ⟨pg, hpg, hrest⟩ := h.placed n p hp
  exact ⟨pg, by rw [hget, if_neg (hplace n p hp)]; exact hpg, hrest⟩

theorem PageForm.defineLayout (h : PageForm s) {l : Nat} {cs : List Column} (hl : l < 16) (hcs : columnsLaw cs)
    (hplace : ∀ n, ∀ p ∈ (s.slot n).placements, p.layout ≠ l) :
    PageForm (s.setLayouts (Table.set none s.itb.layouts l (some cs))) := by
  have hget : ∀ k, (s.setLayouts (Table.set none s.itb.layouts l (some cs))).layout k =
      if k = l then some cs else s.layout k := fun k => Table.get_set ..
  refine ⟨h.pages, h.apart, fun k ds hk => ?_, h.used, fun n p hp => ?_⟩
  · rw [hget] at hk
    split at hk
    · next he =>
      rw [Option.some.injEq] at hk
      exact hk ▸ he ▸ ⟨hl, hcs⟩
    · exact h.layouts k ds hk
  · obtain ⟨pg, hpg, ds, hds, hrest⟩ := h.placed n p hp
    exact ⟨pg, hpg, ds, by rw [hget, if_neg (hplace n p hp)]; exact hds, hrest⟩

theorem PageForm.listPlacement (h : PageForm s) (hs : Table.wf Slot.empty s.itb.slots = true) (n : Nat) {p : Placement}
    (hp : s.placed p) (hroom : s.placementsUsed < 512) : PageForm (s.listPlacement n p) := by
  have hsum := Table.sum_set hs (f := fun r => r.placements.length) rfl n
    { s.slot n with placements := (s.slot n).placements ++ [p] }
  have hslot : PageForm (s.setSlot n { s.slot n with placements := (s.slot n).placements ++ [p] }) := by
    refine ⟨h.pages, h.apart, h.layouts, ?_, fun m q hq => ?_⟩
    · have hn : (Table.get .empty s.itb.slots n).placements.length = (s.slot n).placements.length := rfl
      have hu : s.placementsUsed = (s.itb.slots.map fun e => e.2.placements.length).sum := rfl
      simp only [List.length_append, List.length_singleton] at hsum
      simp only [State.placementsUsed, State.setSlot_itb]
      omega
    · rw [State.slot_setSlot] at hq
      split at hq
      · simp only [List.mem_append, List.mem_singleton] at hq
        rcases hq with hq | rfl
        · exact h.placed n q hq
        · exact hp
      · exact h.placed m q hq
  exact hslot.congr rfl rfl

theorem PageForm.unlistPlacement (h : PageForm s) (hs : Table.wf Slot.empty s.itb.slots = true) (n k : Nat) :
    PageForm (s.unlistPlacement n k) :=
  (h.setSlot hs n (r := { s.slot n with placements := (s.slot n).placements.eraseIdx k })
    (List.eraseIdx_sublist ..)).congr rfl rfl

end

/-- Every change keeps the laws of pages, layouts and placements. -/
theorem Change.pageForm {i : Instr} {s t : State} (hc : Change i s t) (hs : Canonical s) (h : PageForm s) :
    PageForm t := by
  cases hc with
  | same => exact h
  | format => exact h.congr rfl rfl
  | mode => exact h.congr rfl rfl
  | screen => exact h.congr rfl rfl
  | palette => exact h.congr rfl rfl
  | style => exact h.congr rfl rfl
  | fontarea => exact h.congr rfl rfl
  | glyphs => exact h.congr rfl rfl
  | page id pg hid hrows hcols hfree hfits hmeet =>
    exact h.definePage hid ⟨hrows.1, hrows.2, hcols.1, hcols.2, hfits⟩ hfree hmeet _
  | unpage id hplace =>
    exact h.removePage fun n p hp => by simpa using (anyPlacement_eq_false hs.slots _).mp hplace n p hp
  | text => exact h.congr rfl rfl
  | fill pg top left rows cols code fg bg flags =>
    exact h.cells (foldl_rel SameButCells .refl (fun _ _ _ => .trans) (fun _ _ => State.writeCells_frame ..) _ _)
  | pane => exact h.congr rfl rfl
  | scroll => exact h.congr rfl rfl
  | clip => exact h.congr rfl rfl
  | crawl => exact h.congr rfl rfl
  | crawlctl => exact h.congr rfl rfl
  | define n => exact h.setSlot hs.slots n (List.nil_sublist _)
  | drop n => exact (pageForm_kept.dropSlot s n ⟨hs, h⟩).2
  | layout l cs hl hlen hcs hext hsrc hmeet hplace =>
    refine h.defineLayout hl ⟨hlen.1, hlen.2, fun c hc => ?_, ?_⟩ fun n p hp => by
      simpa using (anyPlacement_eq_false hs.slots _).mp hplace n p hp
    · obtain ⟨hw, hst, hmd⟩ := hcs c hc
      exact ⟨hw, (le_extent hc).trans hext, hst, hmd⟩
    · exact (anyPair_eq_false.mp hsrc).imp₂ (fun a b hab hab' => ⟨by simpa using hab, hab'⟩) (anyPair_eq_false.mp hmeet)
  | place n p pg cs _ hpg hcs hrow hcol _ hpool =>
    exact (h.listPlacement hs.slots n ⟨pg, hpg, cs, hcs, hrow, hcol⟩ hpool).cells (State.writePlacement_frame ..)
  | unplace n k p =>
    exact (h.cells (State.blankPlacement_frame s p)).unlistPlacement (hs.writePlacement _ p).slots n k
  | post n ps =>
    have h1 : ∀ k, PageForm (s.setSlot n { s.slot n with conflation := k }) := fun k =>
      h.setSlot hs.slots n (List.Sublist.refl _)
    exact (h1 _).congr rfl rfl
  | pendingFull => exact h.congr rfl rfl
  | limit n side l => exact h.setSlot hs.slots n (by rw [Slot.setLimit_placements])
  | ack n side => exact (pageForm_kept.acknowledge s n side ⟨hs, h⟩).2
  | hold => exact h.congr rfl rfl
  | qslot n => exact h.setSlot hs.slots n (List.Sublist.refl _)
  | lines => exact h.congr rfl rfl
  | save => exact h.congr rfl rfl
  | saved => exact h.congr rfl rfl
  | reset =>
    exact
      { pages := fun _ _ hp => nomatch hp
        apart := fun _ _ _ _ _ hp => nomatch hp
        layouts := fun _ _ hl => nomatch hl
        used := Nat.zero_le _
        placed := fun _ _ hp => nomatch hp }
  | frameStart => exact (pageForm_kept.eventKept.frameStart s ⟨hs, h⟩).2
  | sleepEntry => exact h.congr rfl rfl
  | scanStart => exact (pageForm_kept.eventKept.scanStart s ⟨hs, h⟩).2
  | commitStep => exact (pageForm_kept.eventKept.commitStep s ⟨hs, h⟩).2
  | pinChange => exact h.congr rfl rfl
  | edge l hl => exact (pageForm_kept.eventKept.debouncedEdge s l hl ⟨hs, h⟩).2

/-! ## The composition -/

/-- The laws of both copies of the composition, read by number. -/
structure CompositionForm (s : State) : Prop where
  staged : CopyForm s s.sco.staged
  active : CopyForm s s.sco.active

theorem compositionLaw_iff {s : State} : s.compositionLaw ↔ CompositionForm s := by
  unfold State.compositionLaw
  rw [copyLaw_iff, copyLaw_iff]
  exact ⟨fun h => ⟨h.1, h.2⟩, fun h => ⟨h.staged, h.active⟩⟩

/-- A copy keeps its laws where every page that one of its panes names stays defined. -/
theorem CopyForm.of_pages {s t : State} {c : Composition} (h : CopyForm s c)
    (hp : ∀ p, ∀ i ∈ (c.pane p).page, (s.page i).isSome → (t.page i).isSome) : CopyForm t c where
  wf := h.wf
  listed := h.listed
  panes p := by
    obtain ⟨h1, h2, h3, h4, h5, h6, h7, h8, h9, hpage, hrest⟩ := h.panes p
    exact ⟨h1, h2, h3, h4, h5, h6, h7, h8, h9, fun i hi => hp p i hi (hpage i hi), hrest⟩
  single := h.single
  windows := h.windows

/-- A pane record set in a copy, where it is the only one of kind CRAWL or of kind PAGE. -/
theorem CopyForm.setPane {s : State} {c : Composition} (h : CopyForm s c) {p : Nat} {r : Pane} (hp : p < 8)
    (hr : s.paneLaw r) (hother : r.kind = .crawl → ∀ q, q ≠ p → (c.pane q).kind ≠ .crawl) :
    CopyForm s { c with panes := Table.set .hidden c.panes p r } := by
  have hget : ∀ q, ({ c with panes := Table.set .hidden c.panes p r } : Composition).pane q =
      if q = p then r else c.pane q := fun q => Table.get_set ..
  refine ⟨Table.wf_set h.wf p r, fun q hq => ?_, fun q => ?_, fun a b ha hb => ?_, h.windows⟩
  · rw [hget] at hq
    split at hq
    · omega
    · exact h.listed q hq
  · rw [hget]
    split
    · exact hr
    · exact h.panes q
  · rw [hget] at ha hb
    split at ha <;> split at hb
    · omega
    · next h1 h2 => exact absurd hb (hother ha b h2)
    · next h1 h2 => exact absurd ha (hother hb a h1)
    · exact h.single a b ha hb

theorem CopyForm.setWindow {s : State} {c : Composition} (h : CopyForm s c) (second : Bool) {w : Window}
    (hw : w.top ≤ 63 ∧ w.left ≤ 159 ∧ w.rows ≤ 64 ∧ w.cols ≤ 160) : CopyForm s (c.setWindow second w) := by
  have h0 := h.windows c.w0 (by simp)
  have h1 := h.windows c.w1 (by simp)
  cases second <;> exact ⟨h.wf, h.listed, h.panes, h.single, by simp [Composition.setWindow, h0, h1, hw]⟩

theorem CopyForm.reset (s : State) : CopyForm s ⟨[], .empty, .empty⟩ :=
  ⟨rfl, fun _ h => absurd rfl h, fun _ => hidden_paneLaw s, fun _ _ h => PaneKind.noConfusion h, by simp [Window.empty]⟩

/-- A copy in which no pane of number 0 to 7 names a page names it nowhere. -/
theorem CopyForm.not_names {s : State} {c : Composition} (h : CopyForm s c) {id : Nat} (hn : c.namesPage id = false)
    (p : Nat) : (c.pane p).page ≠ some id := by
  by_cases hp : p < 8
  · simpa using List.any_eq_false.mp hn p (List.mem_range.mpr hp)
  · have : c.pane p = .hidden := by
      by_contra hne
      exact hp (h.listed p hne)
    simp [this, Pane.hidden]

theorem CopyForm.other_not_crawl {s : State} {c : Composition} (h : CopyForm s c) {p : Nat}
    (ho : c.otherCrawl p = false) (q : Nat) (hq : q ≠ p) : (c.pane q).kind ≠ .crawl := by
  by_cases hq8 : q < 8
  · simpa [hq] using List.any_eq_false.mp ho q (List.mem_range.mpr hq8)
  · have : c.pane q = .hidden := by
      by_contra hne
      exact hq8 (h.listed q hne)
    simp [this, Pane.hidden]

/-- The laws of the composition read the page table and the two copies only. -/
theorem CompositionForm.congr {s t : State} (h : CompositionForm s) (hp : t.cst.pages = s.cst.pages)
    (hs : t.sco.staged = s.sco.staged) (ha : t.sco.active = s.sco.active) : CompositionForm t :=
  ⟨hs ▸ h.staged.of_pages fun _ i _ hi => State.page_congr hp i ▸ hi,
    ha ▸ h.active.of_pages fun _ i _ hi => State.page_congr hp i ▸ hi⟩

theorem CompositionForm.flash {s t : State} (h : CompositionForm s) (hf : SameButFlash s t) : CompositionForm t :=
  h.congr hf.pages (by rw [hf]) (by rw [hf])

/-- The writes of the events keep the laws of the composition: the frame start makes the staged copy the active one. -/
theorem compositionForm_kept : Kept CompositionForm where
  link s t h hs := hs.congr (by rw [h]) (by rw [h]) (by rw [h])
  dtg _ _ h := h.congr rfl rfl rfl
  cme _ _ h := h.congr rfl rfl rfl
  load _ _ h := ⟨h.staged.of_pages fun _ _ _ => id, h.staged.of_pages fun _ _ _ => id⟩
  advance s w h := h.congr rfl (s.sco.advance_compositions w).1 (s.sco.advance_compositions w).2
  clean _ h := h.congr rfl rfl rfl
  removed _ _ _ h := h.congr rfl rfl rfl
  taken _ _ _ _ h := h.congr rfl rfl rfl
  emptied _ _ h := h.congr rfl rfl rfl
  aged _ _ h := h.congr rfl rfl rfl
  limit _ _ _ _ h := h.congr rfl rfl rfl
  paint _ _ _ h _ := h.flash (State.writePlacement_frame ..).flash
  blank _ _ _ h _ := h.flash (State.writePlacement_frame ..).flash
  alerts _ _ h := h.congr rfl rfl rfl
  ended _ _ h := h.flash (State.endFlash_frame ..)
  recoloured _ _ _ _ _ _ h _ := h.congr rfl rfl rfl
  alarmed _ _ _ _ _ h _ := h.congr rfl rfl rfl
  spent _ _ _ _ h _ := h.congr rfl rfl rfl
  started _ _ h _ := h.flash (State.newFlash_frame ..)
  line _ _ _ h _ _ := h.congr rfl rfl rfl

/-- Every change keeps the laws of the composition. -/
theorem Change.compositionForm {i : Instr} {s t : State} (hc : Change i s t) (h : CompositionForm s) :
    CompositionForm t := by
  cases hc with
  | same => exact h
  | format => exact h.congr rfl rfl rfl
  | mode => exact h.congr rfl rfl rfl
  | screen => exact h.congr rfl rfl rfl
  | palette => exact h.congr rfl rfl rfl
  | style => exact h.congr rfl rfl rfl
  | fontarea => exact h.congr rfl rfl rfl
  | glyphs => exact h.congr rfl rfl rfl
  | page id pg =>
    have hsome : ∀ i, (s.page i).isSome →
        (((s.setPages (Table.set none s.cst.pages id (some pg))).setCells
          (Table.clearRun s.cst.cells pg.base pg.size)).page i).isSome := fun i hi => by
      change (Table.get none (Table.set none s.cst.pages id (some pg)) i).isSome
      rw [Table.get_set]
      split
      · rfl
      · exact hi
    exact ⟨h.staged.of_pages fun _ i _ => hsome i, h.active.of_pages fun _ i _ => hsome i⟩
  | unpage id _ hstaged hactive =>
    have hsome : ∀ i, i ≠ id → (s.page i).isSome →
        ((s.setPages (Table.set none s.cst.pages id none)).page i).isSome := fun i hi hs => by
      change (Table.get none (Table.set none s.cst.pages id none) i).isSome
      rw [Table.get_set, if_neg hi]
      exact hs
    exact ⟨h.staged.of_pages fun p i hi => hsome i fun he => h.staged.not_names hstaged p (he ▸ hi),
      h.active.of_pages fun p i hi => hsome i fun he => h.active.not_names hactive p (he ▸ hi)⟩
  | text => exact h.congr rfl rfl rfl
  | fill =>
    exact h.flash (foldl_rel SameButCells .refl (fun _ _ _ => .trans) (fun _ _ => State.writeCells_frame ..) _ _).flash
  | pane p r hp hscr hsrc hrows hcols hprio hpage hnone hcrawl hother =>
    refine ⟨CopyForm.of_pages (h.staged.setPane hp ?_ fun hk => h.staged.other_not_crawl (hother hk))
      fun _ _ _ => id, h.active.of_pages fun _ _ _ => id⟩
    exact ⟨hsrc.1, hsrc.2, hscr.1, hscr.2, hrows.1, hrows.2, hcols.1, hcols.2, hprio, hpage, hnone, hcrawl⟩
  | scroll p row col hp hrow hcol hkind =>
    refine ⟨CopyForm.of_pages (h.staged.setPane hp ?_ fun hk => ?_) fun _ _ _ => id,
      h.active.of_pages fun _ _ _ => id⟩
    · obtain ⟨_, _, hrest⟩ := h.staged.panes p
      obtain ⟨h3, h4, h5, h6, h7, h8, h9, h10, h11, -⟩ := hrest
      exact ⟨hrow, hcol, h3, h4, h5, h6, h7, h8, h9, h10, h11, fun hk => PaneKind.noConfusion (hkind.symm.trans hk)⟩
    · exact PaneKind.noConfusion (hkind.symm.trans hk)
  | clip second w hw =>
    exact ⟨(h.staged.setWindow second hw).of_pages fun _ _ _ => id, h.active.of_pages fun _ _ _ => id⟩
  | crawl => exact h.congr rfl rfl rfl
  | crawlctl speed blank clear => cases clear <;> exact h.congr rfl rfl rfl
  | define => exact h.congr rfl rfl rfl
  | drop n => exact compositionForm_kept.dropSlot s n h
  | layout => exact h.congr rfl rfl rfl
  | place n p =>
    exact (h.congr (t := s.listPlacement n p) rfl rfl rfl).flash (State.writePlacement_frame ..).flash
  | unplace n k p => exact (h.flash (State.blankPlacement_frame s p).flash).congr rfl rfl rfl
  | post => exact h.congr rfl rfl rfl
  | pendingFull => exact h.congr rfl rfl rfl
  | limit => exact h.congr rfl rfl rfl
  | ack n side => exact compositionForm_kept.acknowledge s n side h
  | hold => exact h.congr rfl rfl rfl
  | qslot => exact h.congr rfl rfl rfl
  | lines => exact h.congr rfl rfl rfl
  | save => exact h.congr rfl rfl rfl
  | saved => exact h.congr rfl rfl rfl
  | reset => exact ⟨.reset _, .reset _⟩
  | frameStart => exact compositionForm_kept.eventKept.frameStart s h
  | sleepEntry => exact h.congr rfl rfl rfl
  | scanStart => exact compositionForm_kept.eventKept.scanStart s h
  | commitStep => exact compositionForm_kept.eventKept.commitStep s h
  | pinChange => exact h.congr rfl rfl rfl
  | edge l hl => exact compositionForm_kept.eventKept.debouncedEdge s l hl h

/-- Settles O57: read by number, the laws are kept by every change of a waiting command. -/
theorem stepKeepsPageLaws : Obligations.StepKeepsPageLaws := by
  intro s t hcan hpage hlayout hplace hcomp h
  rw [canonical_iff] at hcan
  have hlink : LinkFree fun s => (Canonical s ∧ PageForm s) ∧ CompositionForm s := fun s t h hs =>
    ⟨pageForm_kept.link s t h hs.1, compositionForm_kept.link s t h hs.2⟩
  obtain ⟨⟨hcan', hpage'⟩, hcomp'⟩ := step_leads hlink hlink
    (fun _ _ _ _ h0 hc => ⟨⟨hc.canonical h0.1.1, hc.pageForm h0.1.1 h0.1.2⟩, hc.compositionForm h0.2⟩) id
    ⟨⟨hcan, (pageForm_iff hcan).mp ⟨hpage, hlayout, hplace⟩⟩, compositionLaw_iff.mp hcomp⟩ h
  obtain ⟨h1, h2, h3⟩ := (pageForm_iff hcan').mpr hpage'
  exact ⟨h1, h2, h3, compositionLaw_iff.mpr hcomp'⟩

end Sys2Proof.Machine
end

-- ==== Proofs: ranges ====
section
/-!
SUPPORT and O60. What painting writes and where it writes it; then every cell, colour and setting stays in its range.
-/

namespace Sys2Proof.Machine

/-! ## What painting writes -/

theorem placeText_length {w : Nat} {al : Align} {t : Text} (h : t.length ≤ w) : (placeText w al t).length = w := by
  cases al <;> simp only [placeText, List.length_append, List.length_replicate] <;> omega

theorem fitText_length (w : Nat) (al : Align) (fill : Nat) (ts : List Text) : (fitText w al fill ts).length = w := by
  unfold fitText
  split
  · next h => exact placeText_length (by simpa using List.find?_some h)
  · exact List.length_replicate

theorem spaces_length (w : Nat) : (spaces w).length = w := List.length_replicate

theorem fieldText_length (r : Slot) (c : Column) (f : Field) (v : Int) : (fieldText r c f v).length = c.width := by
  have hprice : (fieldText.priceText r c v).length = c.width := by
    unfold fieldText.priceText
    split
    · exact fitText_length ..
    · exact spaces_length _
  cases f with
  | bid => exact hprice
  | ask => exact hprice
  | last => exact hprice
  | bsize => exact fitText_length ..
  | asize => exact fitText_length ..
  | volume => exact fitText_length ..
  | ref => exact hprice
  | time => exact fitText_length ..

/-- The text of a column has as many characters as its width (R77, R80). -/
theorem columnText_length (r : Slot) (c : Column) : (columnText r c).length = c.width := by
  unfold columnText
  split
  · split
    · exact fieldText_length ..
    · exact spaces_length _
  · split
    · exact fitText_length ..
    · exact spaces_length _
  · split
    · exact fitText_length ..
    · exact spaces_length _
  · exact placeText_length (by simp)
  · exact List.length_replicate

@[simp] theorem State.columnCells_length (s : State) (n : Nat) (c : Column) : (s.columnCells n c).length = c.width := by
  simp [State.columnCells, columnText_length]

@[simp] theorem State.blankCells_length (s : State) (c : Column) : (s.blankCells c).length = c.width :=
  List.length_replicate

/-- The cells of a painted column have a colour of the column's class and the reference of its field. -/
theorem State.mem_columnCells {s : State} {n : Nat} {c : Column} {x : Cell} (hx : x ∈ s.columnCells n c) :
    (∃ d, x.fg = columnFg (s.style c.style) d) ∧ x.bg = (s.style c.style).bg ∧ x.ref = s.columnRef n c.source := by
  obtain ⟨code, -, rfl⟩ := List.mem_map.mp hx
  exact ⟨⟨_, rfl⟩, rfl, rfl⟩

theorem State.mem_blankCells {s : State} {c : Column} {x : Cell} (hx : x ∈ s.blankCells c) :
    x.fg = (s.style c.style).fg ∧ x.bg = (s.style c.style).bg ∧ x.ref = none := by
  rw [List.eq_of_mem_replicate hx]
  exact ⟨rfl, rfl, rfl⟩

/-- A reference that a column's cells carry is that of the slot's flash entry for a price field the column shows. -/
theorem State.columnRef_eq_some {s : State} {n : Nat} {src : Source} {i : Nat} (h : s.columnRef n src = some i) :
    ∃ f, src = .field f ∧ f ∈ priceFields ∧ s.fau.find n f = some i := by
  unfold State.columnRef at h
  split at h
  · exact ⟨_, rfl, by decide, h⟩
  · exact ⟨_, rfl, by decide, h⟩
  · exact ⟨_, rfl, by decide, h⟩
  all_goals exact nomatch h

/-- The entry that is found is one of the table, of the slot and field asked for. -/
theorem Fau.find_eq_some {u : Fau} {n : Nat} {f : Field} {i : Nat} (h : u.find n f = some i) :
    ∃ x, (i, some x) ∈ u.flash ∧ x.slot = n ∧ x.field = f := by
  unfold Fau.find at h
  obtain ⟨e, he, rfl⟩ := Option.map_eq_some_iff.mp h
  have hmem := List.mem_of_find?_eq_some he
  have hprop := List.find?_some he
  obtain ⟨k, v⟩ := e
  cases v with
  | none => exact nomatch hprop
  | some x =>
    simp only [Bool.and_eq_true, beq_iff_eq] at hprop
    exact ⟨x, hmem, hprop.1, hprop.2⟩

/-! ## Where painting writes -/

/-- A run within a row of a page lies within the page's run. -/
theorem Page.cellIndex_add_le {p : Page} {r c w : Nat} (hr : r < p.rows) (hc : c + w ≤ p.cols) :
    p.cellIndex r c + w ≤ p.base + p.size := by
  have : (r + 1) * p.cols ≤ p.rows * p.cols := Nat.mul_le_mul_right _ hr
  unfold Page.cellIndex Page.size
  rw [Nat.add_mul] at this
  omega

/-- What every column write of a placement keeps, writing the placement keeps; the page and the layout are those of the
state that the writing starts from. -/
theorem State.writePlacement_keeps {P : State → Prop} {mk : State → Column → List Cell} {s : State} {p : Placement}
    (hs : P s)
    (hw : ∀ t pg cs c, SameButCells s t → s.page p.page = some pg → s.layout p.layout = some cs → c ∈ cs → P t →
      P (t.writeColumn mk pg p c)) : P (s.writePlacement mk p) := by
  unfold State.writePlacement
  split
  · next pg cs hpg hcs =>
    refine (List.foldlRecOn (motive := fun t => SameButCells s t ∧ P t) cs _ ⟨.refl s, hs⟩ fun t ht c hc => ?_).2
    exact ⟨ht.1.trans (State.writeCells_frame ..), hw t pg cs c ht.1 hpg hcs hc ht.2⟩
  · exact hs

/-! ## The ranges by name -/

/-- The ranges with their parts named. -/
structure RangeForm (s : State) : Prop where
  cells : ∀ e ∈ s.cst.cells, e.1 < 24576 ∧ e.2.fg < 64 ∧ e.2.bg < 64 ∧ ∀ i ∈ e.2.ref, i < 128
  settings : settingsLaw s.gcu.palette s.gcu.styles s.gcu.back s.gcu.dim s.gcu.banner
  areas : ∀ e ∈ s.gcu.areas, e.1 < 4 ∧ e.2.bank ≤ 3 ∧ e.2.base ≤ 255
  glyphs : ∀ e ∈ s.gcu.glyphs, glyphKey 1 0 0 ≤ e.1 ∧ e.1 < glyphKey 4 0 0
  flash : ∀ e ∈ s.fau.flash, e.1 < 128 ∧ ∀ x ∈ e.2, x.colour < 64
  ring : ∀ c ∈ s.sco.ring, c.fg < 64 ∧ c.bg < 64
  blank : s.sco.blank < 64
  lines : ∀ e ∈ s.lnu.lines, e.1 < 4 ∧ e.2.edges ≤ 65535
  gens : ∀ e ∈ s.pst.gens, 1 ≤ e.1 ∧ e.1 ≤ 4 ∧ (e.2.done.isSome → e.2.claimed) ∧ ∀ p ∈ e.2.done, p.law
  programming : ∀ q ∈ s.pst.programming, 1 ≤ q.generation ∧ q.generation ≤ 4 ∧ q.data.law ∧
    s.gen q.generation = ⟨true, none⟩
  loaded : s.pst.loaded ≤ 4

theorem rangeLaw_iff {s : State} : s.rangeLaw ↔ RangeForm s :=
  ⟨fun ⟨h1, h2, h3, h4, h5, h6, h7, h8, h9, h10, h11⟩ => ⟨h1, h2, h3, h4, h5, h6, h7, h8, h9, h10, h11⟩,
    fun h => ⟨h.cells, h.settings, h.areas, h.glyphs, h.flash, h.ring, h.blank, h.lines, h.gens, h.programming,
      h.loaded⟩⟩

theorem Style.factory_law : Style.factory.law := by
  unfold Style.law
  decide

theorem columnFg_lt {st : Style} (h : st.law) (d : Direction) : columnFg st d < 64 := by
  obtain ⟨hfg, -, hup, hdown, -⟩ := h
  unfold columnFg
  split
  · cases d
    · exact hfg
    · exact hup
    · exact hdown
  · exact hfg

theorem moveColour_lt {st : Style} (h : st.law) (k : MoveKind) : st.moveColour k < 64 := by
  obtain ⟨-, -, hup, hdown, -⟩ := h
  cases k
  · exact hup
  · exact hdown

theorem settings_factory : Profile.factory.law := by
  unfold Profile.law settingsLaw
  refine ⟨by decide, by simp [Profile.factory], by decide, by decide, by decide, by decide⟩

namespace RangeForm

variable {s : State} (h : RangeForm s)
include h

/-! ## What the ranges give by number -/

theorem style (c : Nat) : (s.style c).law := by
  by_cases hc : s.style c = .factory
  · exact hc ▸ Style.factory_law
  · exact (h.settings.2.1 _ (Table.mem_of_get_ne _ _ c hc)).2

theorem entry {i : Nat} {x : FlashEntry} (hx : s.flashEntry i = some x) : i < 128 ∧ x.colour < 64 := by
  have hmem := Table.mem_of_get_ne none s.fau.flash i (by simp [show Table.get none s.fau.flash i = some x from hx])
  exact ⟨(h.flash _ hmem).1, (h.flash _ hmem).2 x hx⟩

theorem find_lt {n : Nat} {f : Field} {i : Nat} (hf : s.fau.find n f = some i) : i < 128 := by
  obtain ⟨x, hx, -⟩ := Fau.find_eq_some hf
  exact (h.flash _ hx).1

theorem line (l : Nat) : (s.line l).edges ≤ 65535 := by
  by_cases hl : s.line l = .idle
  · rw [hl]
    decide
  · exact (h.lines _ (Table.mem_of_get_ne _ _ l hl)).2

theorem gen (g : Nat) : ((s.gen g).done.isSome → (s.gen g).claimed) ∧ ∀ p ∈ (s.gen g).done, p.law := by
  by_cases hg : s.gen g = .unused
  · simp [hg, Generation.unused]
  · exact (h.gens _ (Table.mem_of_get_ne _ _ g hg)).2.2

theorem loadProfile : s.loadProfile.law := by
  rcases s.loadProfile_cases with hf | ⟨g, hg⟩
  · exact hf ▸ settings_factory
  · exact (h.gen g).2 _ hg

/-! ## The writes -/

theorem writeCells {a : Nat} {cs : List Cell} (ha : a + cs.length ≤ 24576)
    (hcs : ∀ c ∈ cs, c.fg < 64 ∧ c.bg < 64 ∧ ∀ i ∈ c.ref, i < 128) : RangeForm (s.writeCells a cs) :=
  { h with
    cells := fun e he => by
      rcases Table.mem_writeRun he with ⟨he, -⟩ | ⟨-, hlt, he⟩
      · exact h.cells e he
      · exact ⟨by omega, hcs _ he⟩ }

theorem setCells {t : Table Cell} (ht : ∀ e ∈ t, e.1 < 24576 ∧ e.2.fg < 64 ∧ e.2.bg < 64 ∧ ∀ i ∈ e.2.ref, i < 128) :
    RangeForm (s.setCells t) := { h with cells := ht }

theorem setFlash (i : Nat) {x : Option FlashEntry} {order : List Nat} (hi : i < 128) (hx : ∀ y ∈ x, y.colour < 64) :
    RangeForm (s.setFau { s.fau with flash := Table.set none s.fau.flash i x, order := order }) :=
  { h with
    flash := fun e he => by
      rcases Table.mem_set he with ⟨he, -⟩ | rfl
      · exact h.flash e he
      · exact ⟨hi, hx⟩ }

theorem endFlash (i : Nat) : RangeForm (s.endFlash i) := by
  unfold State.endFlash
  split
  · next e he =>
    refine RangeForm.setFlash (h.setCells fun e he => ?_) i (h.entry he).1 (by simp)
    obtain ⟨c, hc, hec⟩ := Table.mem_adjust he
    obtain ⟨hlt, hfg, hbg, href⟩ := h.cells _ hc
    rw [hec]
    unfold Cell.release
    split
    · split
      · exact ⟨hlt, hfg, hbg, by simp⟩
      · exact ⟨hlt, hfg, hbg, href⟩
    · exact ⟨hlt, hfg, hbg, href⟩
  · exact h

theorem putFlash {i : Nat} {e : FlashEntry} (hi : i < 128) (he : e.colour < 64) : RangeForm (s.putFlash i e) :=
  h.setFlash i hi (by simpa using he)

theorem newFlash {e : FlashEntry} (he : e.colour < 64) : RangeForm (s.newFlash e) := by
  unfold State.newFlash
  split
  · next i hi => exact h.putFlash (by simpa [Config.flashCount] using List.mem_of_find?_eq_some hi) he
  · split
    · next i hi =>
      have hany := List.find?_some (p := fun i => (s.flashEntry i).any FlashEntry.isMoving) hi
      obtain ⟨x, hx⟩ := Option.isSome_iff_exists.mp (Option.isSome_of_any hany)
      exact (h.endFlash i).putFlash (h.entry hx).1 he
    · exact h

theorem setLine {l : Nat} {x : Line} (hl : l < 4) (hx : x.edges ≤ 65535) : RangeForm (s.setLine l x) :=
  { h with
    lines := fun e he => by
      rcases Table.mem_set he with ⟨he, -⟩ | rfl
      · exact h.lines e he
      · exact ⟨hl, hx⟩ }

/-- Entries that come from the old ones of their numbers with their colours. -/
theorem adjustFlash {f : Nat → Option FlashEntry → Option FlashEntry}
    (hf : ∀ k v, ∀ x ∈ f k v, ∃ y ∈ v, x = { y with spans := x.spans }) :
    ∀ e ∈ Table.adjust none f s.fau.flash, e.1 < 128 ∧ ∀ x ∈ e.2, x.colour < 64 := fun e he => by
  obtain ⟨v, hv, hev⟩ := Table.mem_adjust he
  refine ⟨(h.flash _ hv).1, fun x hx => ?_⟩
  obtain ⟨y, hy, hxy⟩ := hf _ _ x (hev ▸ hx)
  rw [hxy]
  exact (h.flash _ hv).2 y hy

theorem listPlacement (n : Nat) (p : Placement) : RangeForm (s.listPlacement n p) :=
  { h with flash := h.adjustFlash fun _ _ _ => State.mem_extendSpans }

theorem unlistPlacement (n k : Nat) : RangeForm (s.unlistPlacement n k) :=
  { h with flash := h.adjustFlash fun _ _ _ => State.mem_cutSpans }

/-- A placement within its page, with its columns within the layout's extent, is written within the store. -/
theorem writePlacement (hp : PageForm s) {mk : State → Column → List Cell} {p : Placement} (hin : s.placed p)
    (hlen : ∀ t c, (mk t c).length = c.width)
    (hmk : ∀ t c, SameButCells s t → ∀ x ∈ mk t c, x.fg < 64 ∧ x.bg < 64 ∧ ∀ i ∈ x.ref, i < 128) :
    RangeForm (s.writePlacement mk p) := by
  refine State.writePlacement_keeps h fun t pg cs c ht hpg hcs hc hR => RangeForm.writeCells hR ?_ (hmk t c ht)
  obtain ⟨pg', hpg', cs', hcs', hrow, hcol⟩ := hin
  obtain rfl : pg' = pg := Option.some.inj (hpg'.symm.trans hpg)
  obtain rfl : cs' = cs := Option.some.inj (hcs'.symm.trans hcs)
  obtain ⟨-, -, -, -, -, hend⟩ := hp.pages _ _ hpg
  have hext := le_extent hc
  have hrun := Page.cellIndex_add_le (c := p.col + c.offset) (w := c.width) hrow (by omega)
  rw [hlen]
  omega

theorem paint (hp : PageForm s) (n : Nat) {p : Placement} (hin : s.placed p) : RangeForm (s.paint n p) :=
  h.writePlacement hp hin (fun t c => t.columnCells_length n c) fun t c ht x hx => by
    rw [State.columnCells_congr ht] at hx
    obtain ⟨⟨d, hfg⟩, hbg, href⟩ := State.mem_columnCells hx
    refine ⟨hfg ▸ columnFg_lt (h.style _) d, hbg ▸ (h.style _).2.1, fun i hi => ?_⟩
    obtain ⟨f, -, -, hf⟩ := State.columnRef_eq_some (href ▸ hi)
    exact h.find_lt hf

theorem blankPlacement (hp : PageForm s) {p : Placement} (hin : s.placed p) : RangeForm (s.blankPlacement p) :=
  h.writePlacement hp hin State.blankCells_length fun t c ht x hx => by
    obtain ⟨hfg, hbg, href⟩ := State.mem_blankCells hx
    rw [show t.style c.style = s.style c.style by rw [ht]; rfl] at hfg hbg
    exact ⟨hfg ▸ (h.style _).1, hbg ▸ (h.style _).2.1, by simp [href]⟩

end RangeForm

/-! ## The events and the commands -/

theorem Sco.advance_ring (c : Sco) (w : Nat) : (c.advance w).ring.Sublist c.ring ∧ (c.advance w).blank = c.blank := by
  unfold Sco.advance
  split
  · exact ⟨.refl _, rfl⟩
  · next p _ =>
    split
    · exact ⟨.refl _, rfl⟩
    · split
      · exact ⟨.refl _, rfl⟩
      · rcases Sco.crawlStep_cases { c with offset := c.offset + c.speed - w } p.cols with
          ⟨-, h⟩ | ⟨-, -, h⟩ | ⟨-, -, -, h⟩ | ⟨-, -, -, h⟩ <;> rw [h]
        · exact ⟨.refl _, rfl⟩
        · exact ⟨.refl _, rfl⟩
        · exact ⟨List.nil_sublist _, rfl⟩
        · exact ⟨List.tail_sublist _, rfl⟩

/-- The canonical form, the laws of pages and the ranges together. -/
abbrev InRange (s : State) : Prop := (Canonical s ∧ PageForm s) ∧ RangeForm s

/-- The laws of pages together with the ranges are kept by the writes of the events. -/
theorem inRange_kept : Kept InRange where
  link s t h hs := ⟨pageForm_kept.link s t h hs.1, by rw [h]; exact { hs.2 with }⟩
  dtg s d h := ⟨pageForm_kept.dtg s d h.1, { h.2 with }⟩
  cme s c h := ⟨pageForm_kept.cme s c h.1, { h.2 with }⟩
  load s b h := ⟨pageForm_kept.load s b h.1, { h.2 with }⟩
  advance s w h := ⟨pageForm_kept.advance s w h.1,
    { h.2 with
      ring := fun c hc => h.2.ring c ((s.sco.advance_ring w).1.subset hc)
      blank := (s.sco.advance_ring w).2 ▸ h.2.blank }⟩
  clean s h := ⟨pageForm_kept.clean s h.1, { h.2 with }⟩
  removed s n d h := ⟨pageForm_kept.removed s n d h.1, { h.2 with }⟩
  taken s n es f h := ⟨pageForm_kept.taken s n es f h.1, { h.2 with }⟩
  emptied s n h := ⟨pageForm_kept.emptied s n h.1, { h.2 with }⟩
  aged s now h := ⟨pageForm_kept.aged s now h.1, { h.2 with }⟩
  limit s n side l h := ⟨pageForm_kept.limit s n side l h.1, { h.2 with }⟩
  paint s n p h hp := ⟨pageForm_kept.paint s n p h.1 hp, h.2.paint h.1.2 n (h.1.2.placed n p hp)⟩
  blank s n p h hp := ⟨pageForm_kept.blank s n p h.1 hp, h.2.blankPlacement h.1.2 (h.1.2.placed n p hp)⟩
  alerts s as h := ⟨pageForm_kept.alerts s as h.1, { h.2 with }⟩
  ended s i h := ⟨pageForm_kept.ended s i h.1, h.2.endFlash i⟩
  recoloured s i e kind c k h he := ⟨pageForm_kept.recoloured s i e kind c k h.1 he,
    h.2.putFlash (h.2.entry he).1 (moveColour_lt (h.2.style c) k)⟩
  alarmed s i e kind c h he := ⟨pageForm_kept.alarmed s i e kind c h.1 he,
    h.2.putFlash (h.2.entry he).1 (h.2.style c).2.2.2.2.1⟩
  spent s i e kind h he := ⟨pageForm_kept.spent s i e kind h.1 he,
    h.2.setFlash i (h.2.entry he).1 (by simpa using (h.2.entry he).2)⟩
  started s e h he := ⟨pageForm_kept.started s e h.1 he, h.2.newFlash (by
    obtain ⟨c, ⟨k, hk⟩ | ha⟩ := he
    · exact hk ▸ moveColour_lt (h.2.style c) k
    · exact ha ▸ (h.2.style c).2.2.2.2.1)⟩
  line s l x h hl hx := ⟨pageForm_kept.line s l x h.1 hl hx, h.2.setLine hl hx⟩

theorem flatten_length_of_all {g : List (List U16)} (h : (g.all fun x => x.length == 20) = true) :
    g.flatten.length = 20 * g.length := by
  induction g with
  | nil => rfl
  | cons x g ih =>
    simp only [List.all_cons, Bool.and_eq_true, beq_iff_eq] at h
    simp only [List.flatten_cons, List.length_append, List.length_cons, h.1, ih h.2]
    omega

/-- The number of the profile a reset loads is 0 to 4. -/
theorem State.loadNumber_le (s : State) : s.loadNumber ≤ 4 := by
  unfold State.loadNumber
  cases hd : s.highestDone with
  | none => simp
  | some g =>
    have := List.mem_of_find?_eq_some hd
    simp [generations] at this
    simp only [Option.getD_some]
    omega

/-- Every change that a well-formed command makes keeps the ranges. -/
theorem Change.rangeForm {i : Instr} {s t : State} (hc : Change i s t) (hi : i.wf = true) (hs : Canonical s)
    (hp : PageForm s) (h : RangeForm s) : RangeForm t := by
  cases hc with
  | same => exact h
  | format => exact { h with }
  | mode => exact { h with }
  | screen back dim banner hback hdim hlen hchars =>
    exact { h with settings := ⟨h.settings.1, h.settings.2.1, hback, hdim, hlen, hchars⟩ }
  | palette start entries hfits =>
    refine { h with settings := ⟨fun e he => ?_, h.settings.2⟩ }
    rcases Table.mem_writeRun he with ⟨he, -⟩ | ⟨-, hlt, -⟩
    · exact h.settings.1 e he
    · omega
  | style c st hc hst =>
    refine { h with settings := ⟨h.settings.1, fun e he => ?_, h.settings.2.2⟩ }
    rcases Table.mem_set he with ⟨he, -⟩ | rfl
    · exact h.settings.2.1 e he
    · exact ⟨hc, hst⟩
  | fontarea a x ha hbank hbase =>
    refine { h with areas := fun e he => ?_ }
    rcases Table.mem_set he with ⟨he, -⟩ | rfl
    · exact h.areas e he
    · exact ⟨ha, hbank, hbase⟩
  | glyphs tag o hio hbank hfits hawake =>
    refine { h with glyphs := fun e he => ?_ }
    rcases Table.mem_writeRun he with ⟨he, -⟩ | ⟨hge, hlt, -⟩
    · exact h.glyphs e he
    · subst hio
      have hrows := flatten_length_of_all (Bool.and_eq_true_iff.mp hi).1
      rw [List.length_map, hrows] at hlt
      unfold glyphKey at *
      omega
  | page id pg =>
    exact { h with cells := fun e he => h.cells e (Table.mem_of_mem_clearRun he) }
  | unpage => exact { h with }
  | text pg row col codes fg bg flags hpg hrow hcol hfg hbg =>
    obtain ⟨id, hpg⟩ := hpg
    obtain ⟨-, -, -, -, -, hend⟩ := hp.pages id pg hpg
    have hrun := Page.cellIndex_add_le hrow hcol
    refine h.writeCells (by simp only [List.length_map]; omega) fun c hc => ?_
    obtain ⟨code, -, rfl⟩ := List.mem_map.mp hc
    exact ⟨hfg, hbg, by simp⟩
  | fill pg top left rows cols code fg bg flags hpg hrow hcol hfg hbg =>
    obtain ⟨id, hpg⟩ := hpg
    obtain ⟨-, -, -, -, -, hend⟩ := hp.pages id pg hpg
    refine List.foldlRecOn (motive := RangeForm) _ _ h fun t ht r hr => ht.writeCells ?_ fun c hc => ?_
    · have hrun := Page.cellIndex_add_le (p := pg) (r := top + r) (c := left) (w := cols)
        (by have := List.mem_range.mp hr; omega) hcol
      simp only [List.length_replicate]
      omega
    · rw [List.eq_of_mem_replicate hc]
      exact ⟨hfg, hbg, by simp⟩
  | pane => exact { h with }
  | scroll => exact { h with }
  | clip second w => cases second <;> exact { h with }
  | crawl text _ _ hcol =>
    refine { h with ring := fun c hc => ?_ }
    rcases List.mem_append.mp hc with hc | hc
    · exact h.ring c hc
    · exact hcol c hc
  | crawlctl speed blank clear _ hblank =>
    cases clear
    · exact { h with blank := hblank }
    · exact { h with blank := hblank, ring := fun c hc => nomatch hc }
  | define => exact { h with }
  | drop n => exact (inRange_kept.dropSlot s n ⟨⟨hs, hp⟩, h⟩).2
  | layout => exact { h with }
  | place n p pg cs hdef hpg hcs hrow hcol hfour hpool =>
    have hin : s.placed p := ⟨pg, hpg, cs, hcs, hrow, hcol⟩
    exact (h.listPlacement n p).paint (hp.listPlacement hs.slots n hin hpool) n hin
  | unplace n k p hdef hpk =>
    exact (h.blankPlacement hp (hp.placed n p (List.mem_of_getElem? hpk))).unlistPlacement n k
  | post => exact { h with }
  | pendingFull => exact { h with }
  | limit => exact { h with }
  | ack n side => exact (inRange_kept.acknowledge s n side ⟨⟨hs, hp⟩, h⟩).2
  | hold => exact { h with }
  | qslot => exact { h with }
  | lines a b c d =>
    refine { h with lines := fun e he => ?_ }
    have hgiven : ∀ l f, ((s.line l).given f).edges ≤ 65535 := fun l f => by
      unfold Line.given
      split
      · exact h.line l
      · exact Nat.zero_le _
    rcases Table.mem_writeRun he with ⟨he, -⟩ | ⟨-, hlt, he⟩
    · exact h.lines e he
    · simp only [List.length_cons, List.length_nil] at hlt
      simp only [List.mem_cons, List.not_mem_nil, or_false] at he
      refine ⟨by omega, ?_⟩
      rcases he with he | he | he | he <;> rw [he] <;> exact hgiven _ _
  | save g tag hidle hg hnew =>
    have hdone : (s.gen g).done = none := by
      have := (h.gen g).1
      rw [hnew] at this
      simpa using this
    have hrange : 1 ≤ g ∧ g ≤ 4 := by
      simp [generations] at hg
      omega
    refine { h with gens := fun e he => ?_, programming := fun q hq => ?_ }
    · rcases Table.mem_set he with ⟨he, -⟩ | rfl
      · exact h.gens e he
      · exact ⟨hrange.1, hrange.2, fun _ => rfl, (h.gen g).2⟩
    · obtain rfl := Option.mem_some_iff.mp hq
      refine ⟨hrange.1, hrange.2, h.settings, ?_⟩
      change Table.get Generation.unused (Table.set Generation.unused _ g _) g = _
      simp only [Table.get_set_self, hdone]
  | saved p hp =>
    obtain ⟨h1, h4, hlaw, hgen⟩ := h.programming p hp
    refine { h with gens := fun e he => ?_, programming := fun q hq => nomatch hq }
    rcases Table.mem_set he with ⟨he, -⟩ | rfl
    · exact h.gens e he
    · exact ⟨h1, h4, fun _ => by simp [hgen], fun q hq => by rw [Option.mem_some_iff] at hq; exact hq ▸ hlaw⟩
  | reset glyphs f p hg hpr =>
    exact
      { cells := fun _ he => nomatch he
        settings := h.loadProfile
        areas := fun _ he => nomatch he
        glyphs := by
          rcases hg with rfl | rfl
          · exact fun _ he => nomatch he
          · exact h.glyphs
        flash := fun _ he => nomatch he
        ring := fun _ he => nomatch he
        blank := Nat.zero_lt_succ _
        lines := fun e he => by
          obtain ⟨x, hx, hex⟩ := Table.mem_adjust (f := fun _ => Line.afterReset) he
          exact ⟨(h.lines _ hx).1, by rw [hex]; exact Nat.zero_le _⟩
        gens := h.gens
        programming := by
          rcases hpr with rfl | rfl
          · exact fun _ hq => nomatch hq
          · exact h.programming
        loaded := s.loadNumber_le }
  | frameStart => exact (inRange_kept.eventKept.frameStart s ⟨⟨hs, hp⟩, h⟩).2
  | sleepEntry => exact { h with }
  | scanStart => exact (inRange_kept.eventKept.scanStart s ⟨⟨hs, hp⟩, h⟩).2
  | commitStep => exact (inRange_kept.eventKept.commitStep s ⟨⟨hs, hp⟩, h⟩).2
  | pinChange l level hl =>
    refine h.setLine hl ?_
    unfold Line.pinChange
    split <;> exact h.line l
  | edge l hl => exact (inRange_kept.eventKept.debouncedEdge s l hl ⟨⟨hs, hp⟩, h⟩).2

/-- Settles O60: the changes of well-formed commands keep the ranges, together with the canonical form and the laws of
pages. -/
theorem stepKeepsRanges : Obligations.StepKeepsRanges := by
  intro s t hwf hcan _ hpage hlayout hplace _ hrange h
  rw [canonical_iff] at hcan
  rw [rangeLaw_iff] at hrange ⊢
  exact (step_leads inRange_kept.link inRange_kept.link
    (fun i _ _ hi h0 hc => ⟨⟨hc.canonical h0.1.1, hc.pageForm h0.1.1 h0.1.2⟩,
      hc.rangeForm (hwf i hi) h0.1.1 h0.1.2 h0.2⟩) id
    ⟨⟨hcan, (pageForm_iff hcan).mp ⟨hpage, hlayout, hplace⟩⟩, hrange⟩ h).2

end Sys2Proof.Machine
end

-- ==== Proofs: the flash table and the references ====
section
/-!
SUPPORT. The flash table, its age order and the cells' references in step (`FlashForm`), read by number, and the rules
of the operations on them: ending, putting and starting entries, painting and blanking.
-/

namespace Sys2Proof.Machine

/-! ## The laws by number -/

/-- An entry in the ranges of R100, its spans those of the slot's placements (R102); the FIRED limit of an ALERT entry
is left out. -/
structure EntryForm (s : State) (x : FlashEntry) : Prop where
  defined : (s.slot x.slot).defined = true
  field : x.field ∈ priceFields
  spans : x.spans = s.spansOf x.slot x.field
  moving : ∀ k len rem start, x.kind = .moving k len rem start → 1 ≤ rem ∧ rem ≤ len ∧ len ≤ 60
  alert : x.kind = .alert → x.field = .last

/-- The flash table with its age order and the cells' references (R1, R100 to R102), the alerts left out. -/
structure FlashForm (s : State) : Prop where
  index : ∀ i x, s.flashEntry i = some x → i < 128
  entry : ∀ i x, s.flashEntry i = some x → EntryForm s x
  distinct : ∀ i j x y, s.flashEntry i = some x → s.flashEntry j = some y → x.slot = y.slot → x.field = y.field → i = j
  nodup : s.fau.order.Nodup
  order : ∀ i, i ∈ s.fau.order ↔ ∃ x, s.flashEntry i = some x
  refs : ∀ k i, (s.cell k).ref = some i → ∃ x, s.flashEntry i = some x ∧ ∃ sp ∈ x.spans, sp.holds k = true

theorem entryLaw_iff {s : State} {x : FlashEntry} :
    s.entryLaw x ↔ EntryForm s x ∧
      (x.kind = .alert → (s.slot x.slot).high.isFired = true ∨ (s.slot x.slot).low.isFired = true) := by
  obtain ⟨n, f, kind, colour, spans⟩ := x
  unfold State.entryLaw
  cases kind with
  | moving k len rem start =>
    constructor
    · rintro ⟨h1, h2, h3, h4⟩
      exact ⟨⟨h1, h2, h3, fun k len rem start hk => by cases hk; exact h4, fun hk => nomatch hk⟩, fun hk => nomatch hk⟩
    · rintro ⟨h, -⟩
      exact ⟨h.defined, h.field, h.spans, h.moving k len rem start rfl⟩
  | alert =>
    constructor
    · rintro ⟨h1, h2, h3, h4, h5⟩
      exact ⟨⟨h1, h2, h3, fun _ _ _ _ hk => (nomatch hk), fun _ => h4⟩, fun _ => h5⟩
    · rintro ⟨h, hf⟩
      exact ⟨h.defined, h.field, h.spans, h.alert rfl, hf rfl⟩

/-! ## Finding entries -/

theorem State.find_some {s : State} (hwf : Table.wf none s.fau.flash = true) {n : Nat} {f : Field} {i : Nat}
    (h : s.fau.find n f = some i) : ∃ x, s.flashEntry i = some x ∧ x.slot = n ∧ x.field = f := by
  obtain ⟨x, hx, hrest⟩ := Fau.find_eq_some h
  exact ⟨x, Table.get_of_mem hwf hx, hrest⟩

/-- An entry in use is listed in the table. -/
theorem State.mem_flash {s : State} {i : Nat} {x : FlashEntry} (h : s.flashEntry i = some x) :
    (i, some x) ∈ s.fau.flash := by
  have := Table.mem_of_get_ne none s.fau.flash i (by simp [show Table.get none s.fau.flash i = some x from h])
  rwa [show Table.get none s.fau.flash i = some x from h] at this

theorem State.find_none {s : State} {n : Nat} {f : Field} (h : s.fau.find n f = none) (i : Nat) (x : FlashEntry)
    (hx : s.flashEntry i = some x) (hn : x.slot = n) : x.field ≠ f := by
  unfold Fau.find at h
  rw [Option.map_eq_none_iff, List.find?_eq_none] at h
  simpa [hn] using h _ (State.mem_flash hx)

/-! ## Spans -/

theorem State.placementSpan_congr {s t : State} {p : Placement} (hp : t.page p.page = s.page p.page)
    (hl : t.layout p.layout = s.layout p.layout) (f : Field) : t.placementSpan f p = s.placementSpan f p := by
  unfold State.placementSpan
  rw [hp, hl]

/-- An entry keeps its form where its slot stays defined with the same placements, and these keep their spans. -/
theorem EntryForm.congr {s t : State} {x : FlashEntry} (h : EntryForm s x) (hd : (t.slot x.slot).defined = true)
    (hp : (t.slot x.slot).placements = (s.slot x.slot).placements)
    (hspan : ∀ p ∈ (s.slot x.slot).placements, t.placementSpan x.field p = s.placementSpan x.field p) :
    EntryForm t x where
  defined := hd
  field := h.field
  spans := by
    rw [h.spans]
    unfold State.spansOf
    rw [hp]
    exact (List.filterMap_congr hspan).symm
  moving := h.moving
  alert := h.alert

theorem SameButFlash.placementSpan {s t : State} (h : SameButFlash s t) (f : Field) (p : Placement) :
    t.placementSpan f p = s.placementSpan f p :=
  State.placementSpan_congr (State.page_congr h.pages _) (State.layout_congr (by rw [h.itb]) _) f

theorem EntryForm.flash {s t : State} {x : FlashEntry} (h : EntryForm s x) (hf : SameButFlash s t) : EntryForm t x :=
  h.congr (hf.slot _ ▸ h.defined) (by rw [hf.slot]) fun p _ => hf.placementSpan _ p

/-- In a layout without a source twice, the first column of a source is its only one. -/
theorem find_column {cs : List Column} (h : columnsLaw cs) {c : Column} (hc : c ∈ cs) :
    (cs.find? fun d => d.source == c.source) = some c := by
  obtain ⟨-, -, -, hpair⟩ := h
  have _ : Std.Symm fun a b : Column => a.source ≠ b.source := ⟨fun _ _ => Ne.symm⟩
  cases hd : cs.find? fun d => d.source == c.source with
  | none => exact absurd (List.find?_eq_none.mp hd c hc) (by simp)
  | some d =>
    have hdc : d.source = c.source := by simpa using List.find?_some hd
    by_contra hne
    exact (hpair.imp fun h => h.1).forall (List.mem_of_find?_eq_some hd) hc (fun he => hne (by rw [he])) hdc

/-- The span of a placement for the field of one of its columns is that column's run. -/
theorem placementSpan_of_column {s : State} (hp : PageForm s) {p : Placement} {pg : Page} {cs : List Column}
    (hpg : s.page p.page = some pg) (hcs : s.layout p.layout = some cs) {c : Column} (hc : c ∈ cs) {f : Field}
    (hf : c.source = .field f) :
    s.placementSpan f p = some ⟨p.page, pg.cellIndex p.row (p.col + c.offset), c.width⟩ := by
  have hfind := find_column (hp.layouts _ _ hcs).2 hc
  rw [hf] at hfind
  simp [State.placementSpan, hpg, hcs, hfind]

/-- A span of a placement is the run of a column of its layout. -/
theorem placementSpan_eq_some {s : State} {f : Field} {p : Placement} {sp : Span}
    (h : s.placementSpan f p = some sp) :
    ∃ pg cs c, s.page p.page = some pg ∧ s.layout p.layout = some cs ∧ c ∈ cs ∧
      sp = ⟨p.page, pg.cellIndex p.row (p.col + c.offset), c.width⟩ := by
  unfold State.placementSpan at h
  split at h
  · next pg cs hpg hcs =>
    obtain ⟨c, hc, rfl⟩ := Option.map_eq_some_iff.mp h
    exact ⟨pg, cs, c, hpg, hcs, List.mem_of_find?_eq_some hc, rfl⟩
  · exact nomatch h

theorem Span.holds_iff {sp : Span} {k : Nat} : sp.holds k = true ↔ sp.cell ≤ k ∧ k < sp.cell + sp.width := by
  simp [Span.holds]

/-! ## Moving the form to another state -/

namespace FlashForm

variable {s t : State} (h : FlashForm s)
include h

/-- The same table and order, its entries in form, and references to its entries only. -/
theorem transfer (hf : t.fau.flash = s.fau.flash) (ho : t.fau.order = s.fau.order)
    (he : ∀ i x, s.flashEntry i = some x → EntryForm s x → EntryForm t x)
    (hr : ∀ k i, (t.cell k).ref = some i → ∃ x, s.flashEntry i = some x ∧ ∃ sp ∈ x.spans, sp.holds k = true) :
    FlashForm t := by
  have hget : ∀ i, t.flashEntry i = s.flashEntry i := State.flashEntry_congr hf
  refine ⟨fun i x hx => h.index i x (hget i ▸ hx), fun i x hx => ?_, fun i j x y hx hy => h.distinct i j x y
    (hget i ▸ hx) (hget j ▸ hy), ho ▸ h.nodup, fun i => ?_, fun k i hk => ?_⟩
  · rw [hget] at hx
    exact he i x hx (h.entry i x hx)
  · rw [ho, hget]
    exact h.order i
  · rw [hget]
    exact hr k i hk

/-- The form reads the pages, the instrument table, the cells and the flash table only. -/
theorem congr (hc : t.cst = s.cst) (hi : t.itb = s.itb) (hf : t.fau.flash = s.fau.flash)
    (ho : t.fau.order = s.fau.order) : FlashForm t := by
  have hslot := State.slot_congr (s := s) (t := t) (congrArg Itb.slots hi)
  refine h.transfer hf ho (fun i x hx hform => hform.congr (hslot _ ▸ hform.defined) (by rw [hslot]) fun p _ =>
    State.placementSpan_congr (State.page_congr (congrArg Cst.pages hc) _)
      (State.layout_congr (congrArg Itb.layouts hi) _) _) fun k i hk => h.refs k i ?_
  rwa [State.cell_congr (congrArg Cst.cells hc)] at hk

/-- Records whose placements stay, and which stay defined. -/
theorem setSlots {u : Table Slot} (hd : ∀ i x, s.flashEntry i = some x →
      (Table.get .empty u x.slot).defined = true ∧
        (Table.get .empty u x.slot).placements = (s.slot x.slot).placements) :
    FlashForm (s.setSlots u) :=
  h.transfer rfl rfl (fun i x hx hform => hform.congr (hd i x hx).1 (hd i x hx).2 fun _ _ => rfl) h.refs

/-- Cells written whose references are to entries that have a span there. -/
theorem cells (hc : SameButCells s t)
    (hr : ∀ k i, (t.cell k).ref = some i → ∃ x, s.flashEntry i = some x ∧ ∃ sp ∈ x.spans, sp.holds k = true) :
    FlashForm t :=
  h.transfer (by rw [hc]; rfl) (by rw [hc]; rfl) (fun _ _ _ hform => hform.flash hc.flash) hr

/-- Cells written whose references stood before. -/
theorem cells_of_subset (hc : SameButCells s t) (hr : ∀ k i, (t.cell k).ref = some i → (s.cell k).ref = some i) :
    FlashForm t := h.cells hc fun k i hk => h.refs k i (hr k i hk)

/-! ## Ending and putting entries -/

/-- An entry set, in an order that names it beside the old ones. -/
theorem setEntry {i : Nat} {e : FlashEntry} {order : List Nat} (hi : i < 128) (hform : EntryForm s e)
    (hnew : ∀ j y, s.flashEntry j = some y → y.slot = e.slot → y.field = e.field → j = i)
    (hrefs : ∀ k, (s.cell k).ref = some i → ∃ sp ∈ e.spans, sp.holds k = true) (hnodup : order.Nodup)
    (horder : ∀ j, j ∈ order ↔ j = i ∨ j ∈ s.fau.order) :
    FlashForm (s.setFau { s.fau with flash := Table.set none s.fau.flash i (some e), order := order }) := by
  have hget : ∀ j, (s.setFau { s.fau with
      flash := Table.set none s.fau.flash i (some e), order := order }).flashEntry j =
        if j = i then some e else s.flashEntry j := fun j => Table.get_set ..
  refine ⟨fun j x hx => ?_, fun j x hx => ?_, fun j k x y hx hy hs hf => ?_, hnodup, fun j => ?_, fun k j hk => ?_⟩
  · rw [hget] at hx
    split at hx
    · omega
    · exact h.index j x hx
  · rw [hget] at hx
    split at hx
    · rw [Option.some.injEq] at hx
      exact hx ▸ hform.flash rfl
    · exact (h.entry j x hx).flash rfl
  · rw [hget] at hx hy
    split at hx <;> split at hy
    · omega
    · next hj hk =>
      rw [Option.some.injEq] at hx
      subst hx
      exact absurd (hnew k y hy hs.symm hf.symm) hk
    · next hj hk =>
      rw [Option.some.injEq] at hy
      subst hy
      exact absurd (hnew j x hx hs hf) hj
    · exact h.distinct j k x y hx hy hs hf
  · rw [hget]
    change j ∈ order ↔ _
    rw [horder, h.order]
    by_cases hj : j = i <;> simp [hj]
  · rw [hget]
    change (s.cell k).ref = some j at hk
    split
    · next hj => exact ⟨e, rfl, hrefs k (hj ▸ hk)⟩
    · exact h.refs k j hk

theorem putFlash {i : Nat} {e : FlashEntry} (hi : i < 128) (hform : EntryForm s e)
    (hnew : ∀ j y, s.flashEntry j = some y → y.slot = e.slot → y.field = e.field → j = i)
    (hrefs : ∀ k, (s.cell k).ref = some i → ∃ sp ∈ e.spans, sp.holds k = true) : FlashForm (s.putFlash i e) := by
  refine h.setEntry hi hform hnew hrefs ?_ fun j => ?_
  · simp [List.nodup_append, h.nodup.filter]
  · by_cases hj : j = i <;> simp [hj]

/-- A free index takes an entry of a slot and field that have none. -/
theorem putFree {i : Nat} {e : FlashEntry} (hi : i < 128) (hfree : s.flashEntry i = none) (hform : EntryForm s e)
    (hnew : ∀ j y, s.flashEntry j = some y → y.slot = e.slot → y.field ≠ e.field) : FlashForm (s.putFlash i e) :=
  h.putFlash hi hform (fun j y hy hs hf => absurd hf (hnew j y hy hs)) fun k hk => by
    obtain ⟨x, hx, -⟩ := h.refs k i hk
    rw [hfree] at hx
    exact nomatch hx

/-- A reference to an entry in use stands in one of the entry's spans. -/
theorem refs_of_entry {i : Nat} {e : FlashEntry} (he : s.flashEntry i = some e) {k : Nat}
    (hk : (s.cell k).ref = some i) : ∃ sp ∈ e.spans, sp.holds k = true := by
  obtain ⟨x, hx, hsp⟩ := h.refs k i hk
  rw [he, Option.some.injEq] at hx
  exact hx ▸ hsp

/-- An entry takes another kind or colour. -/
theorem putSame {i : Nat} {e : FlashEntry} (he : s.flashEntry i = some e) {kind : FlashKind} {colour : Nat}
    (hform : EntryForm s { e with kind := kind, colour := colour }) :
    FlashForm (s.putFlash i { e with kind := kind, colour := colour }) :=
  h.putFlash (h.index i e he) hform (fun j y hy hs hf => h.distinct j i y e hy he hs hf) fun _ => h.refs_of_entry he

end FlashForm

/-- A reference after an entry has ended stood before, and is not to that entry where one of its spans holds the
cell. -/
theorem State.ref_endFlash {s : State} (hc : Table.wf .blank s.cst.cells = true) {i j k : Nat}
    (hk : ((s.endFlash i).cell k).ref = some j) :
    (s.cell k).ref = some j ∧
      ∀ e, s.flashEntry i = some e → (∃ sp ∈ e.spans, sp.holds k = true) → j ≠ i := by
  unfold State.endFlash at hk
  split at hk
  · next e he =>
    have hcell : ((s.releaseCells i e.spans).cell k) =
        if e.spans.any fun sp => sp.holds k then (s.cell k).release i else s.cell k :=
      Table.get_adjust hc (fun k c => if e.spans.any fun sp => sp.holds k then c.release i else c)
        (fun k => by split <;> rfl) k
    change ((s.releaseCells i e.spans).cell k).ref = some j at hk
    rw [hcell] at hk
    have hrel : ∀ c : Cell, (c.release i).ref = some j → c.ref = some j ∧ j ≠ i := fun c hcr => by
      unfold Cell.release at hcr
      split at hcr
      · exact nomatch hcr
      · next hne => exact ⟨hcr, fun hj => hne (hj ▸ hcr)⟩
    split at hk
    · exact ⟨(hrel _ hk).1, fun _ _ _ => (hrel _ hk).2⟩
    · next hany =>
      refine ⟨hk, fun e' he' hsp => absurd ?_ hany⟩
      rw [he, Option.some.injEq] at he'
      rw [List.any_eq_true]
      exact he' ▸ hsp
  · next hnone => exact ⟨hk, fun e he => absurd (hnone.symm.trans he) (by simp)⟩

theorem State.order_endFlash (s : State) (hf : FlashForm s) (i : Nat) :
    (s.endFlash i).fau.order = s.fau.order.filter (· != i) := by
  unfold State.endFlash
  split
  · rfl
  · next hnone =>
    refine (List.filter_eq_self.mpr fun j hj => ?_).symm
    have : j ≠ i := fun hji => by
      obtain ⟨x, hx⟩ := (hf.order j).mp hj
      rw [hji, hnone] at hx
      exact nomatch hx
    simpa using this

theorem FlashForm.endFlash {s : State} (h : FlashForm s) (hc : Table.wf .blank s.cst.cells = true) (i : Nat) :
    FlashForm (s.endFlash i) := by
  have hold : ∀ j x, (s.endFlash i).flashEntry j = some x → j ≠ i ∧ s.flashEntry j = some x := fun j x hx => by
    rw [State.flashEntry_endFlash] at hx
    split at hx
    · exact nomatch hx
    · exact ⟨by assumption, hx⟩
  refine ⟨fun j x hx => h.index j x (hold j x hx).2, fun j x hx => (h.entry j x (hold j x hx).2).flash
      (State.endFlash_frame ..), fun j k x y hx hy => h.distinct j k x y (hold j x hx).2 (hold k y hy).2, ?_,
    fun j => ?_, fun k j hk => ?_⟩
  · rw [State.order_endFlash s h]
    exact h.nodup.filter _
  · rw [State.order_endFlash s h, State.flashEntry_endFlash, List.mem_filter, h.order]
    by_cases hj : j = i <;> simp [hj]
  · obtain ⟨href, hne⟩ := State.ref_endFlash hc hk
    obtain ⟨x, hx, hsp⟩ := h.refs k j href
    have hji : j ≠ i := fun hji => hne x (hji ▸ hx) hsp hji
    exact ⟨x, by rw [State.flashEntry_endFlash, if_neg hji]; exact hx, hsp⟩

/-! ## Starting entries -/

theorem FlashEntry.isMoving_iff {x : FlashEntry} : x.isMoving = true ↔ x.kind ≠ .alert := by
  unfold FlashEntry.isMoving
  split <;> simp_all

/-- What a new entry does to the table (R104, log 20). -/
theorem State.newFlash_cases (s : State) (e : FlashEntry) :
    (∃ i, i < 128 ∧ s.flashEntry i = none ∧ s.newFlash e = s.putFlash i e) ∨
    (∃ i x, s.flashEntry i = some x ∧ x.kind ≠ .alert ∧ s.newFlash e = (s.endFlash i).putFlash i e) ∨
    ((∀ i < 128, ∃ x, s.flashEntry i = some x) ∧
      (∀ i ∈ s.fau.order, ∀ x, s.flashEntry i = some x → x.kind = .alert) ∧ s.newFlash e = s) := by
  unfold State.newFlash
  split
  · next i hi =>
    have hlt := List.mem_of_find?_eq_some hi
    have hnone := List.find?_some (p := fun i => (s.flashEntry i).isNone) hi
    exact .inl ⟨i, by simpa [Config.flashCount] using hlt, by simpa using hnone, rfl⟩
  · next hfull =>
    split
    · next i hi =>
      have hany := List.find?_some (p := fun i => (s.flashEntry i).any FlashEntry.isMoving) hi
      obtain ⟨x, hx, hmov⟩ := (Option.any_eq_true ..).mp hany
      exact .inr (.inl ⟨i, x, hx, FlashEntry.isMoving_iff.mp hmov, rfl⟩)
    · next hold =>
      refine .inr (.inr ⟨fun i hi => ?_, fun i hi x hx => ?_, rfl⟩)
      · have := List.find?_eq_none.mp hfull i (List.mem_range.mpr hi)
        exact Option.ne_none_iff_exists'.mp (by simpa using this)
      · have := List.find?_eq_none.mp hold i hi
        by_contra hk
        exact this (by simpa [hx] using FlashEntry.isMoving_iff.mpr hk)

theorem FlashForm.newFlash {s : State} (h : FlashForm s) (hc : Table.wf .blank s.cst.cells = true) {e : FlashEntry}
    (hform : EntryForm s e) (hnew : ∀ j y, s.flashEntry j = some y → y.slot = e.slot → y.field ≠ e.field) :
    FlashForm (s.newFlash e) := by
  rcases s.newFlash_cases e with ⟨i, hi, hfree, heq⟩ | ⟨i, x, hx, -, heq⟩ | ⟨-, -, heq⟩ <;> rw [heq]
  · exact h.putFree hi hfree hform hnew
  · refine (h.endFlash hc i).putFree (h.index i x hx) (by rw [State.flashEntry_endFlash, if_pos rfl])
      (hform.flash (State.endFlash_frame ..)) fun j y hy => ?_
    rw [State.flashEntry_endFlash] at hy
    split at hy
    · exact nomatch hy
    · exact hnew j y hy
  · exact h

/-! ## Painting and blanking -/

/-- A reference in a written cell is one of the cells written, or one that stood before. -/
theorem State.ref_writeCells {s : State} {a : Nat} {cs : List Cell} {k i : Nat}
    (h : ((s.writeCells a cs).cell k).ref = some i) :
    (a ≤ k ∧ k < a + cs.length ∧ ∃ c ∈ cs, c.ref = some i) ∨ (s.cell k).ref = some i := by
  rw [State.cell_writeCells] at h
  split at h
  · next hk =>
    rw [List.getD_eq_getElem _ _ (by omega)] at h
    exact .inl ⟨hk.1, hk.2, _, List.getElem_mem _, h⟩
  · exact .inr h

/-- Cells written without references leave those that stood before. -/
theorem State.ref_writeCells_plain {s : State} {a : Nat} {cs : List Cell} (hcs : ∀ c ∈ cs, c.ref = none) {k i : Nat}
    (h : ((s.writeCells a cs).cell k).ref = some i) : (s.cell k).ref = some i := by
  rcases State.ref_writeCells h with ⟨-, -, c, hc, hi⟩ | h
  · rw [hcs c hc] at hi
    exact nomatch hi
  · exact h

theorem FlashForm.writeCells_plain {s : State} (h : FlashForm s) {a : Nat} {cs : List Cell}
    (hcs : ∀ c ∈ cs, c.ref = none) : FlashForm (s.writeCells a cs) :=
  h.cells_of_subset (State.writeCells_frame ..) fun _ _ => State.ref_writeCells_plain hcs

/-- Painting a placement of a slot leaves references to entries that have a span there. -/
theorem FlashForm.paint {s : State} (h : FlashForm s) (hwf : Table.wf none s.fau.flash = true) (hp : PageForm s)
    {n : Nat} {p : Placement} (hin : p ∈ (s.slot n).placements) : FlashForm (s.paint n p) := by
  refine h.cells (State.writePlacement_frame ..) ?_
  refine State.writePlacement_keeps (P := fun t => ∀ k i, (t.cell k).ref = some i →
    ∃ x, s.flashEntry i = some x ∧ ∃ sp ∈ x.spans, sp.holds k = true) h.refs fun t pg cs c ht hpg hcs hc hR k i hk => ?_
  rcases State.ref_writeCells hk with ⟨hle, hlt, x, hx, href⟩ | hk
  · rw [State.columnCells_length] at hlt
    simp only [State.columnCells_congr ht] at hx
    obtain ⟨-, -, hcol⟩ := State.mem_columnCells hx
    obtain ⟨f, hf, -, hfind⟩ := State.columnRef_eq_some (hcol.symm.trans href)
    obtain ⟨y, hy, rfl, rfl⟩ := State.find_some hwf hfind
    refine ⟨y, hy, ⟨p.page, _, c.width⟩, ?_, Span.holds_iff.mpr ⟨hle, hlt⟩⟩
    rw [(h.entry i y hy).spans]
    exact List.mem_filterMap.mpr ⟨p, hin, placementSpan_of_column hp hpg hcs hc hf⟩
  · exact hR k i hk

/-- A blanked run of columns has no references; other cells keep theirs. -/
theorem ref_blankColumns (pg : Page) (p : Placement) (cs : List Column) (s : State) {k i : Nat}
    (hk : ((cs.foldl (State.writeColumn State.blankCells pg p) s).cell k).ref = some i) :
    (s.cell k).ref = some i ∧ ∀ c ∈ cs, ¬ (pg.cellIndex p.row (p.col + c.offset) ≤ k ∧
      k < pg.cellIndex p.row (p.col + c.offset) + c.width) := by
  induction cs generalizing s with
  | nil => exact ⟨hk, by simp⟩
  | cons c cs ih =>
    obtain ⟨h1, h2⟩ := ih (State.writeColumn State.blankCells pg p s c) hk
    refine ⟨State.ref_writeCells_plain (fun x hx => (State.mem_blankCells hx).2.2) h1, fun d hd => ?_⟩
    rcases List.mem_cons.mp hd with rfl | hd
    · intro hrun
      unfold State.writeColumn at h1
      rw [State.cell_writeCells, State.blankCells_length, if_pos hrun, List.getD_eq_getElem _ _ (by simp; omega)] at h1
      rw [(State.mem_blankCells (List.getElem_mem _)).2.2] at h1
      exact nomatch h1
    · exact h2 d hd

/-- A blanked placement has no references in its spans; other cells keep theirs. -/
theorem ref_blankPlacement {s : State} {p : Placement} {k i : Nat}
    (hk : ((s.blankPlacement p).cell k).ref = some i) :
    (s.cell k).ref = some i ∧ ∀ f sp, s.placementSpan f p = some sp → sp.holds k = false := by
  unfold State.blankPlacement State.writePlacement at hk
  split at hk
  · next pg cs hpg hcs =>
    obtain ⟨h1, h2⟩ := ref_blankColumns pg p cs s hk
    refine ⟨h1, fun f sp hsp => ?_⟩
    obtain ⟨pg', cs', c, hpg', hcs', hc, rfl⟩ := placementSpan_eq_some hsp
    obtain rfl : pg' = pg := Option.some.inj (hpg'.symm.trans hpg)
    obtain rfl : cs' = cs := Option.some.inj (hcs'.symm.trans hcs)
    rw [Bool.eq_false_iff]
    exact fun hh => h2 c hc (Span.holds_iff.mp hh)
  · next hnone =>
    refine ⟨hk, fun f sp hsp => ?_⟩
    obtain ⟨pg, cs, c, hpg, hcs, -⟩ := placementSpan_eq_some hsp
    exact absurd hcs (hnone pg cs hpg)

theorem FlashForm.blankPlacement {s : State} (h : FlashForm s) (p : Placement) : FlashForm (s.blankPlacement p) :=
  h.cells_of_subset (State.blankPlacement_frame ..) fun _ _ hk => (ref_blankPlacement hk).1

end Sys2Proof.Machine
end

-- ==== Proofs: limits, alerts and flashes ====
section
/-!
SUPPORT and O59. The alert queue with the limits (`AlertForm`), the ALERT entries with both, and the flash table stay in
step through every change: first the parts of a take, of an acknowledgement and of the requests, then the changes.
-/

namespace Sys2Proof.Machine

/-! ## The laws by number -/

/-- The alert queue holds exactly the FIRED limits (R110, R114), read by number. -/
structure AlertForm (s : State) : Prop where
  count : s.limitCount ≤ 32
  recorded : ∀ a ∈ s.fau.alerts, (s.slot a.slot).limit a.side = .fired a.level
  fired : ∀ n side, ((s.slot n).limit side).isFired = true → ∃ a ∈ s.fau.alerts, a.slot = n ∧ a.side = side
  distinct : s.fau.alerts.Pairwise fun a b => a.slot ≠ b.slot ∨ a.side ≠ b.side

/-- The slot has a FIRED limit. -/
def Slot.alarmed (r : Slot) : Prop := ∃ side, (r.limit side).isFired = true

/-- Limits, alerts, flash entries and references in step (R1, R100 to R102, R110, R114). -/
structure AlarmForm (s : State) : Prop where
  flash : FlashForm s
  limits : AlertForm s
  backed : ∀ i x, s.flashEntry i = some x → x.kind = .alert → (s.slot x.slot).alarmed
  shown : ∀ a ∈ s.fau.alerts, ∃ i x, s.flashEntry i = some x ∧ x.slot = a.slot ∧ x.kind = .alert

theorem Slot.alarmed_iff {r : Slot} : r.alarmed ↔ r.high.isFired = true ∨ r.low.isFired = true :=
  ⟨fun ⟨side, h⟩ => by
    cases side
    · exact .inl h
    · exact .inr h, fun h => h.elim (fun h => ⟨.high, h⟩) fun h => ⟨.low, h⟩⟩

theorem alertLaw_iff {s : State} (h : Table.wf Slot.empty s.itb.slots = true) : s.alertLaw ↔ AlertForm s := by
  have hfired : (∀ e ∈ s.itb.slots, ∀ side ∈ [Side.high, Side.low], (e.2.limit side).isFired →
      ∃ a ∈ s.fau.alerts, a.slot = e.1 ∧ a.side = side) ↔
        ∀ n side, ((s.slot n).limit side).isFired = true → ∃ a ∈ s.fau.alerts, a.slot = n ∧ a.side = side := by
    rw [Table.forall_mem_iff h fun k r => ∀ side ∈ [Side.high, Side.low], (r.limit side).isFired →
      ∃ a ∈ s.fau.alerts, a.slot = k ∧ a.side = side]
    constructor
    · intro hg n side hf
      refine hg n (fun hn => ?_) side (by cases side <;> simp) hf
      rw [show s.slot n = .empty from hn] at hf
      cases side <;> exact nomatch hf
    · exact fun hg n _ side _ => hg n side
  unfold State.alertLaw
  rw [hfired]
  exact ⟨fun ⟨h1, h2, h3, h4⟩ => ⟨h1, h2, h3, h4⟩, fun h => ⟨h.count, h.recorded, h.fired, h.distinct⟩⟩

theorem alarmForm_iff {s : State} (h : Canonical s) :
    s.alertLaw ∧ s.flashLaw ∧ s.referenceLaw ↔ AlarmForm s := by
  have hsome : ∀ {i x}, s.flashEntry i = some x → Table.get none s.fau.flash i ≠ none := fun {i x} hx => by
    rw [show Table.get none s.fau.flash i = some x from hx]
    simp
  have hentries : (∀ e ∈ s.fau.flash, e.1 < 128 ∧ ∀ x ∈ e.2, s.entryLaw x) ↔
      ∀ i x, s.flashEntry i = some x → i < 128 ∧ s.entryLaw x := by
    rw [Table.forall_mem_iff h.flash fun k v => k < 128 ∧ ∀ x ∈ v, s.entryLaw x]
    exact ⟨fun hg i x hx => ⟨(hg i (hsome hx)).1, (hg i (hsome hx)).2 x hx⟩, fun hg i hi => by
      obtain ⟨x, hx⟩ := Option.ne_none_iff_exists'.mp hi
      exact ⟨(hg i x hx).1, fun y hy => (hg i y hy).2⟩⟩
  have hpair := Table.pairwise_iff h.flash
    (R := fun a b => ∀ x ∈ a, ∀ y ∈ b, x.slot ≠ y.slot ∨ x.field ≠ y.field) fun a b hab x hx y hy =>
      (hab y hy x hx).imp Ne.symm Ne.symm
  have hkeys : ∀ i, (∃ e ∈ s.fau.flash, e.1 = i) ↔ ∃ x, s.flashEntry i = some x := fun i => by
    constructor
    · rintro ⟨e, he, rfl⟩
      have := ((Table.mem_iff h.flash e.1 e.2).mp he)
      exact Option.ne_none_iff_exists'.mp (by rw [State.flashEntry, this.1]; exact this.2)
    · rintro ⟨x, hx⟩
      exact ⟨_, State.mem_flash hx, rfl⟩
  have hshown : ∀ n, (∃ e ∈ s.fau.flash, ∃ x ∈ e.2, x.slot = n ∧ x.kind = .alert) ↔
      ∃ i x, s.flashEntry i = some x ∧ x.slot = n ∧ x.kind = .alert := fun n => by
    constructor
    · rintro ⟨e, he, x, hx, hrest⟩
      exact ⟨e.1, x, by rw [State.flashEntry, Table.get_of_mem h.flash he]; exact hx, hrest⟩
    · rintro ⟨i, x, hx, hrest⟩
      exact ⟨_, State.mem_flash hx, x, rfl, hrest⟩
  have hrefs : s.referenceLaw ↔
      ∀ k i, (s.cell k).ref = some i → ∃ x, s.flashEntry i = some x ∧ ∃ sp ∈ x.spans, sp.holds k = true := by
    unfold State.referenceLaw
    rw [Table.forall_mem_iff h.cells fun k c =>
      ∀ i ∈ c.ref, ∃ x ∈ s.flashEntry i, ∃ sp ∈ x.spans, sp.holds k = true]
    refine ⟨fun hg k i hk => ?_, fun hg k _ i hi => hg k i hi⟩
    refine hg k (fun hb => ?_) i hk
    rw [show s.cell k = .blank from hb] at hk
    exact nomatch hk
  rw [alertLaw_iff h.slots, hrefs]
  unfold State.flashLaw
  rw [hentries, hpair]
  constructor
  · rintro ⟨hal, ⟨-, hent, hdis, hsh, hnd, ho1, ho2⟩, hr⟩
    refine ⟨⟨fun i x hx => (hent i x hx).1, fun i x hx => (entryLaw_iff.mp (hent i x hx).2).1,
      fun i j x y hx hy hs hf => ?_, hnd, fun i => ?_, hr⟩, hal,
      fun i x hx hk => Slot.alarmed_iff.mpr ((entryLaw_iff.mp (hent i x hx).2).2 hk), fun a ha =>
      (hshown a.slot).mp (hsh a ha)⟩
    · by_contra hij
      rcases hdis i j hij (hsome hx) (hsome hy) x hx y hy with h | h
      · exact h hs
      · exact h hf
    · rw [← hkeys]
      exact ⟨ho1 i, fun ⟨e, he, hei⟩ => hei ▸ ho2 e he⟩
  · intro ha
    refine ⟨ha.limits, ⟨h.flash, fun i x hx => ⟨ha.flash.index i x hx, entryLaw_iff.mpr ⟨ha.flash.entry i x hx,
      fun hk => Slot.alarmed_iff.mp (ha.backed i x hx hk)⟩⟩, fun i j hij _ _ x hx y hy => ?_, fun a hal =>
      (hshown a.slot).mpr (ha.shown a hal), ha.flash.nodup, fun i hi => (hkeys i).mpr ((ha.flash.order i).mp hi),
      fun e he => (ha.flash.order e.1).mpr ((hkeys e.1).mp ⟨e, he, rfl⟩)⟩, ha.flash.refs⟩
    by_contra hne
    rw [not_or, not_not, not_not] at hne
    exact hij (ha.flash.distinct i j x y hx hy hne.1 hne.2)

/-! ## Limits of records -/

theorem Slot.limit_setLimit (r : Slot) (side side' : Side) (l : Limit) :
    (r.setLimit side l).limit side' = if side' = side then l else r.limit side' := by
  cases side <;> cases side' <;> rfl

theorem Slot.setLimit_defined (r : Slot) (side : Side) (l : Limit) : (r.setLimit side l).defined = r.defined := by
  cases side <;> rfl

/-- A record's count of limits changes with the limit that is replaced. -/
theorem Slot.limitCount_setLimit (r : Slot) (side : Side) (l : Limit) :
    (r.setLimit side l).limitCount + (r.limit side).counts.toNat = r.limitCount + l.counts.toNat := by
  cases side <;> simp only [Slot.setLimit, Slot.limit, Slot.limitCount] <;> omega

theorem Side.eq_other {side side' : Side} (h : side' ≠ side) : side' = side.other := by
  cases side <;> cases side' <;> simp_all [Side.other]

theorem Limit.counts_of_isFired {l : Limit} (h : l.isFired = true) : l.counts = true := by
  cases l with
  | disarmed => exact nomatch h
  | armed level => exact nomatch h
  | fired level => rfl

/-- A record that keeps placements and limits, and stays defined. -/
structure Slot.Keeps (r r' : Slot) : Prop where
  placements : r'.placements = r.placements
  limit : ∀ side, r'.limit side = r.limit side
  defined : r.defined = true → r'.defined = true

theorem Slot.Keeps.refl (r : Slot) : r.Keeps r := ⟨rfl, fun _ => rfl, id⟩

/-- A change of the conflation count alone. -/
theorem Slot.keeps_conflation (r : Slot) (k : Nat) : r.Keeps { r with conflation := k } :=
  ⟨rfl, fun side => by cases side <;> rfl, id⟩

theorem Slot.taken_keeps (r : Slot) (es : List (Field × Int)) (frame : FrameNo) : r.Keeps (r.taken es frame) := by
  have hstore : (es.foldl Slot.store r).placements = r.placements ∧ (es.foldl Slot.store r).high = r.high ∧
      (es.foldl Slot.store r).low = r.low :=
    List.foldlRecOn (motive := fun x => x.placements = r.placements ∧ x.high = r.high ∧ x.low = r.low) es Slot.store
      ⟨rfl, rfl, rfl⟩ fun x h e _ =>
        show (x.store e).placements = _ ∧ (x.store e).high = _ ∧ (x.store e).low = _ from h
  refine ⟨hstore.1, fun side => ?_, fun _ => rfl⟩
  cases side
  · exact hstore.2.1
  · exact hstore.2.2

theorem Slot.aged_keeps (r : Slot) (now : FrameNo) : r.Keeps (r.aged now) := by
  refine ⟨r.aged_placements now, fun side => ?_, fun hd => ?_⟩
  · rw [Slot.aged_eq]
    cases side <;> rfl
  · unfold Slot.aged
    split
    · split
      · rfl
      · exact hd
    · exact hd

/-- Records that keep their limits keep the alert queue in step. -/
theorem AlertForm.setSlots {s : State} (h : AlertForm s) (hs : Table.wf Slot.empty s.itb.slots = true)
    {u : Table Slot} (hu : Table.wf Slot.empty u = true)
    (hl : ∀ n side, (Table.get .empty u n).limit side = (s.slot n).limit side) : AlertForm (s.setSlots u) where
  count := by
    refine (Table.sum_le_sum hu hs (f := Slot.limitCount) rfl fun n => le_of_eq ?_).trans h.count
    unfold Slot.limitCount
    rw [show (Table.get .empty u n).high = _ from hl n .high, show (Table.get .empty u n).low = _ from hl n .low]
    rfl
  recorded a ha := (hl a.slot a.side).trans (h.recorded a ha)
  fired n side hf := h.fired n side (hl n side ▸ hf)
  distinct := h.distinct

/-- The alert queue's law reads the slots and the alert queue only. -/
theorem AlertForm.congr {s t : State} (h : AlertForm s) (hs : t.itb.slots = s.itb.slots)
    (ha : t.fau.alerts = s.fau.alerts) : AlertForm t where
  count := by
    unfold State.limitCount
    rw [hs]
    exact h.count
  recorded a hal := State.slot_congr hs a.slot ▸ h.recorded a (ha ▸ hal)
  fired n side hf := ha ▸ h.fired n side (State.slot_congr hs n ▸ hf)
  distinct := ha ▸ h.distinct

theorem AlertForm.flash {s t : State} (h : AlertForm s) (hf : SameButFlash s t) : AlertForm t :=
  h.congr (congrArg Itb.slots hf.itb) hf.alerts_eq

namespace AlarmForm

variable {s t : State}

/-! ## Moving the form to another state -/

/-- The same slots, entries and alerts, with the flash table and the references in step. -/
theorem of_flashForm (h : AlarmForm s) (hi : t.itb.slots = s.itb.slots) (hf : t.fau = s.fau) (ht : FlashForm t) :
    AlarmForm t where
  flash := ht
  limits := h.limits.congr hi (congrArg Fau.alerts hf)
  backed i x hx hk := by
    rw [State.slot_congr hi]
    exact h.backed i x (State.flashEntry_congr (congrArg Fau.flash hf) i ▸ hx) hk
  shown a ha := by
    obtain ⟨i, x, hx, hrest⟩ := h.shown a (hf ▸ ha)
    exact ⟨i, x, by rw [State.flashEntry_congr (congrArg Fau.flash hf)]; exact hx, hrest⟩

/-- The form reads the pages, the cells, the instrument table and the Flash and Alert Unit only. -/
theorem congr (h : AlarmForm s) (hc : t.cst = s.cst) (hi : t.itb = s.itb) (hf : t.fau = s.fau) : AlarmForm t :=
  h.of_flashForm (congrArg Itb.slots hi) hf (h.flash.congr hc hi (congrArg Fau.flash hf) (congrArg Fau.order hf))

theorem notices (h : AlarmForm s) (hn : SameButNotices s t) : AlarmForm t :=
  h.congr (by rw [hn]) (by rw [hn]) (by rw [hn])

/-- Records that keep placements and limits and stay defined. -/
theorem setSlots (h : AlarmForm s) (hs : Table.wf Slot.empty s.itb.slots = true) {u : Table Slot}
    (hu : Table.wf Slot.empty u = true) (hk : ∀ n, (s.slot n).Keeps (Table.get .empty u n)) :
    AlarmForm (s.setSlots u) where
  flash := h.flash.setSlots fun i x hx =>
    ⟨(hk x.slot).defined (h.flash.entry i x hx).defined, (hk x.slot).placements⟩
  limits := h.limits.setSlots hs hu fun n side => (hk n).limit side
  backed i x hx hkind := by
    obtain ⟨side, hf⟩ := h.backed i x hx hkind
    exact ⟨side, ((hk x.slot).limit side).symm ▸ hf⟩
  shown := h.shown

theorem setSlot (h : AlarmForm s) (hs : Table.wf Slot.empty s.itb.slots = true) {n : Nat} {r : Slot}
    (hk : (s.slot n).Keeps r) : AlarmForm (s.setSlot n r) :=
  h.setSlots hs (Table.wf_set hs n r) fun m => by
    rw [Table.get_set]
    split
    · next hm => exact hm ▸ hk
    · exact .refl _

/-- Cells written that leave the references in step. -/
theorem cells (h : AlarmForm s) (hc : SameButCells s t) (ht : FlashForm t) : AlarmForm t :=
  h.of_flashForm (congrArg Itb.slots hc.itb) hc.fau ht

end AlarmForm

/-! ## Moving flashes: ALERT entries stay -/

/-- The same ALERT entries. -/
def SameAlarms (s t : State) : Prop := ∀ i x, x.kind = .alert → (t.flashEntry i = some x ↔ s.flashEntry i = some x)

theorem SameAlarms.refl (s : State) : SameAlarms s s := fun _ _ _ => Iff.rfl

theorem SameAlarms.trans {s t u : State} (h : SameAlarms s t) (h' : SameAlarms t u) : SameAlarms s u :=
  fun i x hx => (h' i x hx).trans (h i x hx)

/-- Entry `i` of `t` and of `s` is no ALERT entry, and the others are the same. -/
theorem SameAlarms.of_entry {s t : State} {i : Nat} (hs : ∀ x, s.flashEntry i = some x → x.kind ≠ .alert)
    (ht : ∀ x, t.flashEntry i = some x → x.kind ≠ .alert) (h : ∀ j, j ≠ i → t.flashEntry j = s.flashEntry j) :
    SameAlarms s t := fun j x hx => by
  by_cases hj : j = i
  · subst hj
    exact ⟨fun h => absurd hx (ht x h), fun h => absurd hx (hs x h)⟩
  · rw [h j hj]

theorem State.endFlash_alarms {s : State} {i : Nat} (hs : ∀ x, s.flashEntry i = some x → x.kind ≠ .alert) :
    SameAlarms s (s.endFlash i) :=
  .of_entry hs (fun x hx => by simp [State.flashEntry_endFlash] at hx) fun j hj => by
    rw [State.flashEntry_endFlash, if_neg hj]

theorem State.putFlash_alarms {s : State} {i : Nat} {e : FlashEntry} (he : e.kind ≠ .alert)
    (hs : ∀ x, s.flashEntry i = some x → x.kind ≠ .alert) : SameAlarms s (s.putFlash i e) :=
  .of_entry hs (fun x hx => by simp at hx; exact hx ▸ he) fun j hj => by
    rw [State.flashEntry_putFlash, if_neg hj]

theorem State.newFlash_alarms {s : State} {e : FlashEntry} (he : e.kind ≠ .alert) : SameAlarms s (s.newFlash e) := by
  rcases s.newFlash_cases e with ⟨i, -, hfree, heq⟩ | ⟨i, x, hx, hk, heq⟩ | ⟨-, -, heq⟩ <;> rw [heq]
  · exact State.putFlash_alarms he fun x hx => by simp [hfree] at hx
  · have hs : ∀ y, s.flashEntry i = some y → y.kind ≠ .alert := fun y hy => by
      rw [hx, Option.some.injEq] at hy
      exact hy ▸ hk
    exact (State.endFlash_alarms hs).trans
      (State.putFlash_alarms he fun y hy => by simp [State.flashEntry_endFlash] at hy)
  · exact .refl s

/-- What changes no ALERT entry, and nothing but the flash table and references, keeps the whole form. -/
theorem AlarmForm.of_sameAlarms {s t : State} (h : AlarmForm s) (hf : SameButFlash s t) (ht : FlashForm t)
    (ha : SameAlarms s t) : AlarmForm t := by
  refine ⟨ht, h.limits.flash hf, fun i x hx hk => ?_, fun a hal => ?_⟩
  · rw [hf.slot]
    exact h.backed i x ((ha i x hk).mp hx) hk
  · obtain ⟨i, x, hx, hs, hk⟩ := h.shown a (hf.alerts_eq ▸ hal)
    exact ⟨i, x, (ha i x hk).mpr hx, hs, hk⟩

theorem AlarmForm.movingStart {s : State} (h : AlarmForm s) (hc : Canonical s) (hr : RangeForm s) {n : Nat}
    (hd : (s.slot n).defined = true) {f : Field} (hf : f ∈ priceFields) (k : MoveKind) :
    AlarmForm (s.movingStart n f k) := by
  have hsixty : (s.style (s.slot n).flashStyle).f ≤ 60 := (hr.style _).2.2.2.2.2
  refine h.of_sameAlarms (State.movingStart_frame ..) ?_ ?_
  · unfold State.movingStart
    simp only
    split
    · next hfind =>
      split
      · exact h.flash
      · next hzero =>
        refine h.flash.newFlash hc.cells ⟨hd, hf, rfl, fun _ _ _ _ hk => ?_, fun hk => nomatch hk⟩ fun j y hy hs =>
          State.find_none hfind j y hy hs
        cases hk
        omega
    · next i hfind =>
      split
      · exact h.flash
      · next e he =>
        split
        · split
          · exact h.flash.endFlash hc.cells i
          · next hzero =>
            have hform := h.flash.entry i e he
            refine h.flash.putSame he ⟨hform.defined, hform.field, hform.spans, fun _ _ _ _ hk => ?_,
              fun hk => nomatch hk⟩
            cases hk
            omega
        · exact h.flash
  · unfold State.movingStart
    simp only
    split
    · split
      · exact .refl s
      · exact State.newFlash_alarms (by simp)
    · next i _ =>
      split
      · exact .refl s
      · next e he =>
        split
        · next hm =>
          have hs : ∀ x, s.flashEntry i = some x → x.kind ≠ .alert := fun x hx => by
            rw [he, Option.some.injEq] at hx
            exact hx ▸ FlashEntry.isMoving_iff.mp hm
          split
          · exact State.endFlash_alarms hs
          · exact State.putFlash_alarms (by simp) hs
        · exact .refl s

theorem AlarmForm.decayEntry {s : State} (h : AlarmForm s) (hc : Canonical s) (now : FrameNo) (i : Nat) :
    AlarmForm (s.decayEntry now i) := by
  unfold State.decayEntry
  split
  · exact h
  · next e he =>
    split
    · exact h
    · next k len rem start hk =>
      split
      · exact h
      · have hs : ∀ x, s.flashEntry i = some x → x.kind ≠ .alert := fun x hx => by
          rw [he, Option.some.injEq] at hx
          simp [← hx, hk]
        split
        · exact h.of_sameAlarms (State.endFlash_frame ..) (h.flash.endFlash hc.cells i) (State.endFlash_alarms hs)
        · have hform := h.flash.entry i e he
          refine h.of_sameAlarms rfl (h.flash.setEntry (h.flash.index i e he) ⟨hform.defined, hform.field,
            hform.spans, fun _ _ _ _ hk' => ?_, fun hk' => nomatch hk'⟩ (fun j y hy hs hf =>
            h.flash.distinct j i y e hy he hs hf) (fun _ => h.flash.refs_of_entry he) h.flash.nodup fun j => ?_) ?_
          · cases hk'
            have := hform.moving _ _ _ _ hk
            omega
          · have : i ∈ s.fau.order := (h.flash.order i).mpr ⟨e, he⟩
            exact ⟨.inr, fun hj => hj.elim (fun hj => hj ▸ this) id⟩
          · refine .of_entry hs (fun x hx => ?_) fun j hj => ?_
            · change Table.get none (Table.set none s.fau.flash i _) i = some x at hx
              rw [Table.get_set_self, Option.some.injEq] at hx
              simp [← hx]
            · change Table.get none (Table.set none s.fau.flash i _) j = _
              rw [Table.get_set, if_neg hj]
              rfl

/-! ## Firing -/

/-- Some index holds no ALERT entry: each one goes with a slot that has a limit FIRED, of which there are at most 32. -/
theorem exists_not_alarm {s : State} (hc : Canonical s) (h : FlashForm s)
    (hb : ∀ i x, s.flashEntry i = some x → x.kind = .alert → (s.slot x.slot).alarmed) (hcount : s.limitCount ≤ 32) :
    ∃ i < 128, ∀ x, s.flashEntry i = some x → x.kind ≠ .alert := by
  by_contra hall
  push Not at hall
  choose g hg hk using hall
  have hinj : Function.Injective fun i : Fin 128 => (g i i.2).slot := fun i j hij =>
    Fin.ext (h.distinct i j _ _ (hg i i.2) (hg j j.2) hij (((h.entry _ _ (hg i i.2)).alert (hk i i.2)).trans
      ((h.entry _ _ (hg j j.2)).alert (hk j j.2)).symm))
  have hle := Table.length_le_sum hc.slots (f := Slot.limitCount) rfl
    (ks := (List.finRange 128).map fun i : Fin 128 => (g i i.2).slot) ((List.nodup_finRange 128).map hinj)
      fun n hn => by
      obtain ⟨i, -, rfl⟩ := List.mem_map.mp hn
      obtain ⟨side, hf⟩ := hb _ _ (hg i i.2) (hk i i.2)
      change 1 ≤ (s.slot _).limitCount
      have := Limit.counts_of_isFired hf
      unfold Slot.limitCount
      cases side
      · rw [show (s.slot (g i i.2).slot).high.counts = true from this]
        exact Nat.le_add_right ..
      · rw [show (s.slot (g i i.2).slot).low.counts = true from this]
        exact Nat.le_add_left ..
  rw [List.length_map, List.length_finRange] at hle
  exact absurd (hle.trans hcount) (by omega)

/-- The LAST entry of a slot that has a limit FIRED is an ALERT entry after `alertFlash`, and those of other slots
stay. -/
theorem State.alertFlash_spec {s : State} (hc : Canonical s) (h : FlashForm s) {n : Nat}
    (hd : (s.slot n).defined = true) (hroom : ∃ i < 128, ∀ x, s.flashEntry i = some x → x.kind ≠ .alert) :
    FlashForm (s.alertFlash n) ∧
      (∃ i x, (s.alertFlash n).flashEntry i = some x ∧ x.slot = n ∧ x.kind = .alert) ∧
      ∀ i x, x.kind = .alert → x.slot ≠ n → ((s.alertFlash n).flashEntry i = some x ↔ s.flashEntry i = some x) := by
  unfold State.alertFlash
  simp only
  split
  · next hfind =>
    refine ⟨h.newFlash hc.cells ⟨hd, (by decide : Field.last ∈ priceFields), rfl, fun _ _ _ _ hk => (nomatch hk),
      fun _ => rfl⟩ fun j y hy hs =>
      State.find_none hfind j y hy hs, ?_⟩
    rcases s.newFlash_cases ⟨n, .last, .alert, (s.style (s.slot n).flashStyle).alert, s.spansOf n .last⟩ with
      ⟨i, -, hfree, heq⟩ | ⟨i, x, hx, hk, heq⟩ | ⟨hfull, hold, -⟩
    · rw [heq]
      refine ⟨⟨i, _, by rw [State.flashEntry_putFlash, if_pos rfl], rfl, rfl⟩, fun j y _ hn => ?_⟩
      rw [State.flashEntry_putFlash]
      split
      · next hj =>
        rw [hj, hfree, Option.some.injEq]
        exact ⟨fun hy => absurd (hy ▸ rfl) hn, fun hy => nomatch hy⟩
      · rfl
    · rw [heq]
      refine ⟨⟨i, _, by rw [State.flashEntry_putFlash, if_pos rfl], rfl, rfl⟩, fun j y hky hn => ?_⟩
      rw [State.flashEntry_putFlash, State.flashEntry_endFlash]
      split
      · next hj =>
        rw [hj, hx, Option.some.injEq, Option.some.injEq]
        exact ⟨fun hy => absurd (hy ▸ rfl) hn, fun hy => absurd hky (hy ▸ hk)⟩
      · rfl
    · obtain ⟨i, hi, hno⟩ := hroom
      obtain ⟨x, hx⟩ := hfull i hi
      exact absurd (hold i ((h.order i).mpr ⟨x, hx⟩) x hx) (hno x hx)
  · next i hfind =>
    obtain ⟨e, he, hes, hef⟩ := State.find_some hc.flash hfind
    rw [he]
    simp only
    have hform := h.entry i e he
    refine ⟨h.putSame he ⟨hform.defined, hform.field, hform.spans, fun _ _ _ _ hk => (nomatch hk), fun _ => hef⟩,
      ⟨i, { e with kind := .alert, colour := _ }, by rw [State.flashEntry_putFlash, if_pos rfl], hes, rfl⟩,
      fun j y _ hn => ?_⟩
    rw [State.flashEntry_putFlash]
    split
    · next hj =>
      rw [hj, he, Option.some.injEq, Option.some.injEq]
      exact ⟨fun hy => absurd (hy ▸ hes) hn, fun hy => absurd (hy ▸ hes) hn⟩
    · rfl

/-- A limit replaced, and the alert queue replaced: what stays of the flash form. -/
theorem FlashForm.setLimit {s : State} (h : FlashForm s) (n : Nat) (side : Side) (l : Limit) :
    FlashForm (s.setSlot n ((s.slot n).setLimit side l)) :=
  h.setSlots fun i x hx => by
    rw [Table.get_set]
    split
    · next hn =>
      rw [Slot.setLimit_defined, Slot.setLimit_placements, ← hn]
      exact ⟨(h.entry i x hx).defined, rfl⟩
    · exact ⟨(h.entry i x hx).defined, rfl⟩

/-- The limits of a state with one limit replaced. -/
theorem State.limit_setLimit (s : State) (n m : Nat) (side side' : Side) (l : Limit) :
    ((s.setSlot n ((s.slot n).setLimit side l)).slot m).limit side' =
      if m = n ∧ side' = side then l else (s.slot m).limit side' := by
  rw [State.slot_setSlot]
  by_cases hm : m = n
  · subst hm
    simp [Slot.limit_setLimit]
  · simp [hm]

/-- The device count of limits with one limit replaced. -/
theorem State.limitCount_setLimit {s : State} (hs : Table.wf Slot.empty s.itb.slots = true) (n : Nat) (side : Side)
    (l : Limit) :
    (s.setSlot n ((s.slot n).setLimit side l)).limitCount + ((s.slot n).limit side).counts.toNat =
      s.limitCount + l.counts.toNat := by
  have hsum := Table.sum_set hs (f := Slot.limitCount) rfl n ((s.slot n).setLimit side l)
  have hrec := Slot.limitCount_setLimit (s.slot n) side l
  have h1 : (s.setSlot n ((s.slot n).setLimit side l)).limitCount =
    ((Table.set .empty s.itb.slots n ((s.slot n).setLimit side l)).map fun e => e.2.limitCount).sum := rfl
  have h2 : s.limitCount = (s.itb.slots.map fun e => e.2.limitCount).sum := rfl
  have h3 : (Table.get .empty s.itb.slots n).limitCount = (s.slot n).limitCount := rfl
  omega

theorem AlarmForm.fire {s : State} (h : AlarmForm s) (hc : Canonical s) {n : Nat} (hd : (s.slot n).defined = true)
    {side : Side} {level : Int} (harm : (s.slot n).limit side = .armed level) (v : Int) :
    AlarmForm (s.fire n side level v) := by
  let a : AlertRec := ⟨n, side, level, v, s.cme.frame⟩
  let s1 := s.setSlot n ((s.slot n).setLimit side (.fired level))
  let s2 := s1.setFau { s1.fau with alerts := s1.fau.alerts ++ [a] }
  have hc2 : Canonical s2 := canonical_kept.alerts s1 _ (canonical_kept.limit s n side _ hc)
  have hf2 : FlashForm s2 := (h.flash.setLimit n side (.fired level)).congr rfl rfl rfl rfl
  have hlim : ∀ m side', (s2.slot m).limit side' =
      if m = n ∧ side' = side then .fired level else (s.slot m).limit side' := fun m side' =>
    State.limit_setLimit s n m side side' (.fired level)
  have hold : ∀ b ∈ s.fau.alerts, ¬ (b.slot = n ∧ b.side = side) := fun b hb ⟨h1, h2⟩ => by
    have := h.limits.recorded b hb
    rw [h1, h2, harm] at this
    exact nomatch this
  have hl2 : AlertForm s2 := by
    refine ⟨?_, fun b hb => ?_, fun m side' hf => ?_, ?_⟩
    · have := State.limitCount_setLimit hc.slots n side (.fired level)
      rw [harm] at this
      exact (Nat.add_right_cancel this).trans_le h.limits.count
    · rw [hlim]
      rcases List.mem_append.mp hb with hb | hb
      · rw [if_neg (hold b hb)]
        exact h.limits.recorded b hb
      · rw [List.mem_singleton] at hb
        rw [hb, if_pos ⟨rfl, rfl⟩]
    · rw [hlim] at hf
      split at hf
      · next hm => exact ⟨a, List.mem_append_right _ (List.mem_singleton_self a), hm.1.symm, hm.2.symm⟩
      · obtain ⟨b, hb, hbs⟩ := h.limits.fired m side' hf
        exact ⟨b, List.mem_append_left _ hb, hbs⟩
    · refine List.pairwise_append.mpr ⟨h.limits.distinct, List.pairwise_singleton _ _, fun b hb x hx => ?_⟩
      rw [List.mem_singleton] at hx
      subst hx
      exact not_and_or.mp (hold b hb)
  have halarmed : ∀ m, (s.slot m).alarmed → (s2.slot m).alarmed := fun m ⟨side', hf⟩ => by
    refine ⟨side', ?_⟩
    rw [hlim]
    split
    · rfl
    · exact hf
  have hd2 : (s2.slot n).defined = true := by
    change ((s.setSlot n _).slot n).defined = true
    rw [State.slot_setSlot, if_pos rfl, Slot.setLimit_defined]
    exact hd
  obtain ⟨hf3, hnew, hothers⟩ := State.alertFlash_spec hc2 hf2 hd2
    (exists_not_alarm hc2 hf2 (fun i x hx hk => halarmed _ (h.backed i x hx hk)) hl2.count)
  have hframe := State.alertFlash_frame s2 n
  refine AlarmForm.notices ?_ (State.alertNotice_frame (s2.alertFlash n) .fired a)
  refine ⟨hf3, hl2.flash hframe, fun i x hx hk => ?_, fun b hb => ?_⟩
  · rw [hframe.slot]
    by_cases hxn : x.slot = n
    · refine ⟨side, ?_⟩
      rw [hlim, if_pos ⟨hxn, rfl⟩]
      rfl
    · exact halarmed _ (h.backed i x ((hothers i x hk hxn).mp hx) hk)
  · rw [hframe.alerts_eq] at hb
    rcases List.mem_append.mp hb with hb | hb
    · by_cases hbn : b.slot = n
      · exact hbn ▸ hnew
      · obtain ⟨i, x, hx, hs, hk⟩ := h.shown b hb
        exact ⟨i, x, (hothers i x hk (hs ▸ hbn)).mpr hx, hs, hk⟩
    · rw [List.mem_singleton] at hb
      exact hb ▸ hnew

/-- Firing and the alert check leave a slot defined. -/
theorem State.checkLimit_defined {s : State} {n : Nat} (hd : (s.slot n).defined = true) (v : Int) (side : Side) :
    ((s.checkLimit n v side).slot n).defined = true := by
  unfold State.checkLimit
  split
  · next level _ =>
    split
    · let s1 := s.setSlot n ((s.slot n).setLimit side (.fired level))
      let s2 := s1.setFau { s1.fau with alerts := s1.fau.alerts ++ [⟨n, side, level, v, s.cme.frame⟩] }
      have hslots : (s.fire n side level v).itb.slots = s1.itb.slots :=
        (congrArg (fun t => t.itb.slots) (State.alertNotice_frame (s2.alertFlash n) .fired _)).trans
          (congrArg Itb.slots (State.alertFlash_frame s2 n).itb)
      rw [State.slot_congr hslots, State.slot_setSlot, if_pos rfl, Slot.setLimit_defined]
      exact hd
    · exact hd
  · exact hd
  · exact hd

theorem AlarmForm.checkLimit {s : State} (h : AlarmForm s) (hc : Canonical s) {n : Nat}
    (hd : (s.slot n).defined = true) (v : Int) (side : Side) : AlarmForm (s.checkLimit n v side) := by
  unfold State.checkLimit
  split
  · next level harm =>
    split
    · exact h.fire hc hd harm v
    · exact h
  · exact h
  · exact h

/-! ## Acknowledging and disarming -/

/-- Limits that lose a FIRED one together with its record, or change where none fires. -/
theorem AlarmForm.acknowledge {s : State} (h : AlarmForm s) (hc : Canonical s) (n : Nat) (side : Side) :
    AlarmForm (s.acknowledge n side) := by
  let s1 := s.setFau { s.fau with alerts := s.fau.alerts.filter fun a => !a.names n side }
  let s2 := s1.setSlot n ((s1.slot n).setLimit side .disarmed)
  have hc2 : Canonical s2 := canonical_kept.limit s1 n side _ (canonical_kept.alerts s _ hc)
  have hf2 : FlashForm s2 := FlashForm.setLimit (s := s1) (h.flash.congr rfl rfl rfl rfl) n side .disarmed
  have hlim : ∀ m side', (s2.slot m).limit side' =
      if m = n ∧ side' = side then .disarmed else (s.slot m).limit side' := fun m side' =>
    State.limit_setLimit s1 n m side side' .disarmed
  have hmem : ∀ b, b ∈ s2.fau.alerts ↔ b ∈ s.fau.alerts ∧ ¬ (b.slot = n ∧ b.side = side) := fun b => by
    change b ∈ s.fau.alerts.filter _ ↔ _
    simp only [List.mem_filter, AlertRec.names, Bool.not_eq_true', Bool.and_eq_false_iff, beq_eq_false_iff_ne,
      not_and_or, ne_eq]
  have hl2 : AlertForm s2 := by
    refine ⟨?_, fun b hb => ?_, fun m side' hf => ?_, h.limits.distinct.filter _⟩
    · have := State.limitCount_setLimit (s := s1) hc.slots n side .disarmed
      exact (Nat.le_of_add_right_le this.le).trans h.limits.count
    · obtain ⟨hb, hne⟩ := (hmem b).mp hb
      rw [hlim, if_neg hne]
      exact h.limits.recorded b hb
    · rw [hlim] at hf
      split at hf
      · exact nomatch hf
      · next hne =>
        obtain ⟨b, hb, rfl, rfl⟩ := h.limits.fired m side' hf
        exact ⟨b, (hmem b).mpr ⟨hb, hne⟩, rfl, rfl⟩
  have hback : ∀ i x, s2.flashEntry i = some x → x.kind = .alert → x.slot ≠ n → (s2.slot x.slot).alarmed :=
    fun i x hx hk hne => by
      obtain ⟨side', hf⟩ := h.backed i x hx hk
      exact ⟨side', by rw [hlim, if_neg fun hh => hne hh.1]; exact hf⟩
  have hshown : ∀ b ∈ s2.fau.alerts, ∃ i x, s2.flashEntry i = some x ∧ x.slot = b.slot ∧ x.kind = .alert :=
    fun b hb => h.shown b ((hmem b).mp hb).1
  have hchoice : s.acknowledge n side =
      if ((s2.slot n).limit side.other).isFired then s2 else s2.endAlertFlash n := rfl
  rw [hchoice]
  split
  · next hother =>
    refine ⟨hf2, hl2, fun i x hx hk => ?_, hshown⟩
    by_cases hxn : x.slot = n
    · exact ⟨side.other, hxn ▸ hother⟩
    · exact hback i x hx hk hxn
  · next hother =>
    have hquiet : ¬ (s2.slot n).alarmed := fun ⟨side', hf⟩ => by
      by_cases hs : side' = side
      · rw [hlim, if_pos ⟨rfl, hs⟩] at hf
        exact nomatch hf
      · exact hother (Side.eq_other hs ▸ hf)
    have hslots : ∀ b ∈ s2.fau.alerts, b.slot ≠ n := fun b hb hbn =>
      hquiet ⟨b.side, by rw [← hbn, hl2.recorded b hb]; rfl⟩
    unfold State.endAlertFlash
    split
    · next hfind =>
      refine ⟨hf2, hl2, fun i x hx hk => hback i x hx hk fun hxn => ?_, hshown⟩
      exact State.find_none hfind i x hx hxn ((hf2.entry i x hx).alert hk)
    · next i hfind =>
      obtain ⟨e, he, hes, hef⟩ := State.find_some hc2.flash hfind
      have honly : ∀ j x, s2.flashEntry j = some x → x.kind = .alert → x.slot = n → j = i := fun j x hx hk hxn =>
        hf2.distinct j i x e hx he (hxn.trans hes.symm) (((hf2.entry j x hx).alert hk).trans hef.symm)
      split
      · have hframe := State.endFlash_frame s2 i
        have hentry : ∀ j, (s2.endFlash i).flashEntry j = if j = i then none else s2.flashEntry j := fun j =>
          State.flashEntry_endFlash ..
        refine ⟨hf2.endFlash hc2.cells i, hl2.flash hframe, fun j x hx hk => ?_, fun b hb => ?_⟩
        · rw [hentry] at hx
          split at hx
          · exact nomatch hx
          · next hj =>
            rw [hframe.slot]
            exact hback j x hx hk fun hxn => hj (honly j x hx hk hxn)
        · rw [hframe.alerts_eq] at hb
          obtain ⟨j, x, hx, hxs, hk⟩ := hshown b hb
          have hj : j ≠ i := fun hji => by
            rw [hji, he, Option.some.injEq] at hx
            exact hslots b hb (hxs.symm.trans (hx ▸ hes))
          exact ⟨j, x, by rw [hentry, if_neg hj]; exact hx, hxs, hk⟩
      · next hkind =>
        refine ⟨hf2, hl2, fun j x hx hk => hback j x hx hk fun hxn => hkind ?_, hshown⟩
        rw [honly j x hx hk hxn] at hx
        simp [hx, hk]

/-- A limit that is not FIRED set to another that is not, within the device limit. -/
theorem AlarmForm.setLimit {s : State} (h : AlarmForm s) (hs : Table.wf Slot.empty s.itb.slots = true) {n : Nat}
    {side : Side} {l : Limit} (hold : ((s.slot n).limit side).isFired = false) (hnew : l.isFired = false)
    (hfree : l.counts = true → ((s.slot n).limit side).counts = true ∨ s.limitCount < 32) :
    AlarmForm (s.setSlot n ((s.slot n).setLimit side l)) := by
  have hlim := fun m side' => State.limit_setLimit s n m side side' l
  have hfired : ∀ m side', (((s.setSlot n ((s.slot n).setLimit side l)).slot m).limit side').isFired =
      ((s.slot m).limit side').isFired := fun m side' => by
    rw [hlim]
    split
    · next hm => rw [hm.1, hm.2, hold, hnew]
    · rfl
  refine ⟨h.flash.setLimit n side l, ⟨?_, fun a ha => ?_, fun m side' hf => h.limits.fired m side'
    (hfired m side' ▸ hf), h.limits.distinct⟩, fun i x hx hk => ?_, h.shown⟩
  · have hsum := State.limitCount_setLimit hs n side l
    have hcount := h.limits.count
    cases hl : l.counts
    · rw [hl] at hsum
      simp only [Bool.toNat_false] at hsum
      omega
    · rw [hl] at hsum
      simp only [Bool.toNat_true] at hsum
      rcases hfree hl with ho | ho
      · rw [ho, Bool.toNat_true] at hsum
        omega
      · omega
  · have hrec := h.limits.recorded a ha
    rw [hlim, if_neg fun hh => ?_]
    · exact hrec
    · rw [hh.1, hh.2] at hrec
      rw [hrec] at hold
      exact nomatch hold
  · obtain ⟨side', hf⟩ := h.backed i x hx hk
    exact ⟨side', (hfired _ _).symm ▸ hf⟩

/-! ## Dropping a slot -/

/-- Entries that end one after another. -/
theorem FlashForm.endAll {s : State} (h : FlashForm s) (hc : Canonical s) (l : List Nat) :
    (FlashForm (l.foldl State.endFlash s) ∧ Canonical (l.foldl State.endFlash s)) ∧
      ∀ j, (l.foldl State.endFlash s).flashEntry j = if j ∈ l then none else s.flashEntry j := by
  induction l generalizing s with
  | nil => exact ⟨⟨h, hc⟩, fun j => by simp⟩
  | cons i l ih =>
    obtain ⟨hform, hentry⟩ := ih (h.endFlash hc.cells i) (hc.endFlash i)
    refine ⟨hform, fun j => ?_⟩
    rw [List.foldl_cons, hentry, State.flashEntry_endFlash]
    by_cases hj : j = i <;> by_cases hl : j ∈ l <;> simp [hj, hl]

theorem AlarmForm.dropSlot {s : State} (h : AlarmForm s) (hc : Canonical s) (n : Nat) : AlarmForm (s.dropSlot n) := by
  let s1 := s.setUpq { s.upq with
    pool := Table.clearRun s.upq.pool (poolKey n 0) 8
    dirty := s.upq.dirty.filter (· != n) }
  let s2 := (s1.flashesOf n).foldl State.endFlash s1
  let s3 := s2.setFau { s2.fau with alerts := s2.fau.alerts.filter fun a => a.slot != n }
  let s4 := (s3.slot n).placements.foldl State.blankPlacement s3
  have hframe2 : SameButFlash s1 s2 :=
    foldl_rel SameButFlash .refl (fun _ _ _ => .trans) (fun _ _ => State.endFlash_frame ..) _ _
  have hframe4 : SameButCells s3 s4 :=
    foldl_rel SameButCells .refl (fun _ _ _ => .trans) (fun _ _ => State.blankPlacement_frame ..) _ _
  obtain ⟨⟨hf2, -⟩, hentry2⟩ := FlashForm.endAll (s := s1) (h.flash.congr rfl rfl rfl rfl)
    (canonical_kept.removed s n _ hc) (s1.flashesOf n)
  have hf4 : FlashForm s4 := List.foldlRecOn (motive := FlashForm) _ _ (hf2.congr rfl rfl rfl rfl)
    fun t ht p _ => ht.blankPlacement p
  have hgone : ∀ i, i ∈ s1.flashesOf n ↔ ∃ x, s.flashEntry i = some x ∧ x.slot = n := fun i => by
    unfold State.flashesOf
    simp only [List.mem_map, List.mem_filter, Option.any_eq_true, beq_iff_eq]
    constructor
    · rintro ⟨e, ⟨he, x, hx, hxn⟩, rfl⟩
      exact ⟨x, (Table.get_of_mem hc.flash he).trans hx, hxn⟩
    · rintro ⟨x, hx, hxn⟩
      exact ⟨_, ⟨State.mem_flash hx, x, rfl, hxn⟩, rfl⟩
  have hentry : ∀ i x, s4.flashEntry i = some x ↔ s.flashEntry i = some x ∧ x.slot ≠ n := fun i x => by
    have h42 : s4.flashEntry i = s2.flashEntry i := State.flashEntry_congr (congrArg Fau.flash hframe4.fau) i
    rw [h42, hentry2]
    split
    · next hi =>
      obtain ⟨y, hy, hyn⟩ := (hgone i).mp hi
      refine ⟨fun hx => (nomatch hx), fun ⟨hx, hxn⟩ => absurd hyn ?_⟩
      rw [hy, Option.some.injEq] at hx
      exact hx ▸ hxn
    · next hi => exact ⟨fun hx => ⟨hx, fun hxn => hi ((hgone i).mpr ⟨x, hx, hxn⟩)⟩, fun hx => hx.1⟩
  have halerts : ∀ a, a ∈ s4.fau.alerts ↔ a ∈ s.fau.alerts ∧ a.slot ≠ n := fun a => by
    have h2 : s2.fau.alerts = s.fau.alerts := hframe2.alerts_eq
    rw [hframe4.flash.alerts_eq]
    change a ∈ s2.fau.alerts.filter _ ↔ _
    simp [h2]
  have hitb : s4.itb = s.itb := hframe4.itb.trans hframe2.itb
  have hslot : ∀ m, (s4.setSlot n .empty).slot m = if m = n then .empty else s.slot m := fun m => by
    rw [State.slot_setSlot, State.slot_congr (congrArg Itb.slots hitb)]
  change AlarmForm (s4.setSlot n .empty)
  refine ⟨hf4.setSlots fun i x hx => ?_, ⟨?_, fun a ha => ?_, fun m side hf => ?_, ?_⟩, fun i x hx hk => ?_,
    fun a ha => ?_⟩
  · rw [Table.get_set, if_neg ((hentry i x).mp hx).2]
    exact ⟨(hf4.entry i x hx).defined, rfl⟩
  · have hsum := Table.sum_set hc.slots (f := Slot.limitCount) rfl n .empty
    unfold State.limitCount
    rw [State.setSlot_itb, hitb]
    exact (Nat.le_of_add_right_le hsum.le).trans h.limits.count
  · obtain ⟨ha, hne⟩ := (halerts a).mp ha
    rw [hslot, if_neg hne]
    exact h.limits.recorded a ha
  · rw [hslot] at hf
    split at hf
    · cases side <;> exact nomatch hf
    · next hm =>
      obtain ⟨a, ha, rfl, hs⟩ := h.limits.fired m side hf
      exact ⟨a, (halerts a).mpr ⟨ha, hm⟩, rfl, hs⟩
  · have h4 : s4.fau.alerts = s2.fau.alerts.filter fun a => a.slot != n := hframe4.flash.alerts_eq
    have h2 : s2.fau.alerts = s.fau.alerts := hframe2.alerts_eq
    rw [State.setSlot_fau, h4, h2]
    exact h.limits.distinct.filter _
  · obtain ⟨hx, hne⟩ := (hentry i x).mp hx
    rw [hslot, if_neg hne]
    exact h.backed i x hx hk
  · obtain ⟨ha, hne⟩ := (halerts a).mp ha
    obtain ⟨i, x, hx, hs, hk⟩ := h.shown a ha
    exact ⟨i, x, (hentry i x).mpr ⟨hx, hs ▸ hne⟩, hs, hk⟩

/-! ## Placing and unplacing -/

/-- Entries that change their spans in step with their slot's placements. -/
theorem AlarmForm.replaceSpans {s : State} (h : AlarmForm s) (hc : Canonical s) {n : Nat} {r : Slot}
    (hlim : ∀ side, r.limit side = (s.slot n).limit side) (hdef : r.defined = (s.slot n).defined)
    {g : Option FlashEntry → Option FlashEntry} (hg0 : g none = none)
    (hg : ∀ x, ∃ sps, g (some x) = some { x with spans := sps })
    (hspans : ∀ i x y, s.flashEntry i = some x → g (some x) = some y →
      y.spans = (s.setSlot n r).spansOf x.slot x.field)
    (hrefs : ∀ k i x y, (s.cell k).ref = some i → s.flashEntry i = some x → g (some x) = some y →
      (∃ sp ∈ x.spans, sp.holds k = true) → ∃ sp ∈ y.spans, sp.holds k = true) :
    AlarmForm ((s.setSlot n r).setFau { s.fau with flash := Table.adjust none (fun _ e => g e) s.fau.flash }) := by
  let t := (s.setSlot n r).setFau { s.fau with flash := Table.adjust none (fun _ e => g e) s.fau.flash }
  have hget : ∀ i, t.flashEntry i = g (s.flashEntry i) := fun i =>
    Table.get_adjust hc.flash (fun _ e => g e) (fun _ => hg0) i
  have hold : ∀ i y, t.flashEntry i = some y → ∃ x, s.flashEntry i = some x ∧ g (some x) = some y ∧
      y = { x with spans := y.spans } := fun i y hy => by
    rw [hget] at hy
    cases hx : s.flashEntry i with
    | none =>
      rw [hx, hg0] at hy
      exact nomatch hy
    | some x =>
      obtain ⟨sps, hsps⟩ := hg x
      rw [hx] at hy
      refine ⟨x, rfl, hy, ?_⟩
      rw [hsps, Option.some.injEq] at hy
      exact hy ▸ rfl
  have hnew : ∀ i x, s.flashEntry i = some x → ∃ sps, t.flashEntry i = some { x with spans := sps } := fun i x hx => by
    rw [hget, hx]
    exact hg x
  have hslot : ∀ m, t.slot m = if m = n then r else s.slot m := fun m => State.slot_setSlot s n r m
  have hlimits : ∀ m side, (t.slot m).limit side = (s.slot m).limit side := fun m side => by
    rw [hslot]
    split
    · next hm => rw [hlim, hm]
    · rfl
  have hdefs : ∀ m, (t.slot m).defined = (s.slot m).defined := fun m => by
    rw [hslot]
    split
    · next hm => rw [hdef, hm]
    · rfl
  have halert : AlertForm (s.setSlot n r) := h.limits.setSlots hc.slots (Table.wf_set hc.slots n r) hlimits
  refine ⟨⟨fun i y hy => ?_, fun i y hy => ?_, fun i j y z hy hz hs hf => ?_, h.flash.nodup, fun i => ?_,
    fun k i hk => ?_⟩, ⟨halert.count, halert.recorded, halert.fired, halert.distinct⟩, fun i y hy hk => ?_,
    fun a ha => ?_⟩
  · obtain ⟨x, hx, -⟩ := hold i y hy
    exact h.flash.index i x hx
  · obtain ⟨x, hx, hgx, hyx⟩ := hold i y hy
    have hform := h.flash.entry i x hx
    have hys : y.spans = t.spansOf x.slot x.field := hspans i x y hx hgx
    rw [hyx]
    exact ⟨(hdefs _).trans hform.defined, hform.field, hys, hform.moving, hform.alert⟩
  · obtain ⟨x, hx, -, hyx⟩ := hold i y hy
    obtain ⟨w, hw, -, hzw⟩ := hold j z hz
    rw [hyx, hzw] at hs hf
    exact h.flash.distinct i j x w hx hw hs hf
  · refine (h.flash.order i).trans ⟨fun ⟨x, hx⟩ => ?_, fun ⟨y, hy⟩ => ?_⟩
    · obtain ⟨sps, hsps⟩ := hnew i x hx
      exact ⟨_, hsps⟩
    · obtain ⟨x, hx, -⟩ := hold i y hy
      exact ⟨x, hx⟩
  · obtain ⟨x, hx, hsp⟩ := h.flash.refs k i hk
    obtain ⟨sps, hsps⟩ := hg x
    exact ⟨_, by rw [hget, hx, hsps], hrefs k i x _ hk hx hsps hsp⟩
  · obtain ⟨x, hx, -, hyx⟩ := hold i y hy
    obtain ⟨side, hf⟩ := h.backed i x hx (by rw [hyx] at hk; exact hk)
    refine ⟨side, ?_⟩
    rw [hyx, hlimits]
    exact hf
  · obtain ⟨i, x, hx, hs, hk⟩ := h.shown a ha
    obtain ⟨sps, hsps⟩ := hnew i x hx
    exact ⟨i, _, hsps, hs, hk⟩

/-- The spans of a state with one slot record replaced. -/
theorem State.spansOf_setSlot (s : State) (n m : Nat) (r : Slot) (f : Field) :
    (s.setSlot n r).spansOf m f = if m = n then r.placements.filterMap (s.placementSpan f) else s.spansOf m f := by
  change ((s.setSlot n r).slot m).placements.filterMap (s.placementSpan f) = _
  rw [State.slot_setSlot]
  split <;> rfl

theorem AlarmForm.listPlacement {s : State} (h : AlarmForm s) (hc : Canonical s) (n : Nat) (p : Placement) :
    AlarmForm (s.listPlacement n p) := by
  let r := { s.slot n with placements := (s.slot n).placements ++ [p] }
  have hext : ∀ x, (s.setSlot n r).extendSpans n p (some x) =
      some { x with spans := if x.slot = n then x.spans ++ (s.placementSpan x.field p).toList else x.spans } :=
    fun x => by
      unfold State.extendSpans
      simp only
      split <;> rfl
  refine h.replaceSpans hc (r := r) (g := fun e => (s.setSlot n r).extendSpans n p e)
    (fun side => by cases side <;> rfl) rfl rfl (fun x => ⟨_, hext x⟩) (fun i x y hx hy => ?_)
    fun k i x y _ _ hy hsp => ?_
  · rw [hext, Option.some.injEq] at hy
    rw [State.spansOf_setSlot, ← hy]
    have hold := (h.flash.entry i x hx).spans
    split
    · next hn =>
      rw [List.filterMap_append, hold, hn]
      rfl
    · exact hold
  · rw [hext, Option.some.injEq] at hy
    obtain ⟨sp, hmem, hh⟩ := hsp
    refine ⟨sp, ?_, hh⟩
    rw [← hy]
    simp only
    split
    · exact List.mem_append_left _ hmem
    · exact hmem

/-- The images of a list after a member is erased: the images without that member's, if it has one. -/
theorem filterMap_eraseIdx {α β : Type} (g : α → Option β) (l : List α) (k : Nat) :
    (l.eraseIdx k).filterMap g =
      if (l[k]?).any fun x => (g x).isSome then
        (l.filterMap g).eraseIdx ((l.take k).countP fun x => (g x).isSome)
      else l.filterMap g := by
  induction l generalizing k with
  | nil => simp
  | cons a l ih =>
    cases k with
    | zero => cases ha : g a <;> simp [ha]
    | succ k =>
      simp only [List.eraseIdx_cons_succ, List.filterMap_cons, List.getElem?_cons_succ, List.take_succ_cons,
        List.countP_cons, ih]
      cases ha : g a
      · simp
      · simp only [Option.isSome_some, if_true, List.eraseIdx_cons_succ]
        split <;> rfl

/-- After the blanking of the placement, no cell of its spans has a reference, and the entries can lose the span. -/
theorem AlarmForm.unlistPlacement {s : State} (h : AlarmForm s) (hc : Canonical s) (n k : Nat) {p : Placement}
    (hp : (s.slot n).placements[k]? = some p)
    (hblank : ∀ c i, (s.cell c).ref = some i → ∀ f sp, s.placementSpan f p = some sp → sp.holds c = false) :
    AlarmForm (s.unlistPlacement n k) := by
  let r := { s.slot n with placements := (s.slot n).placements.eraseIdx k }
  have hcut : ∀ x, s.cutSpans n k (some x) = some { x with
      spans := if x.slot = n ∧ (((s.slot n).placements)[k]?).any (s.showsField x.field) then
        x.spans.eraseIdx (((s.slot n).placements.take k).countP (s.showsField x.field)) else x.spans } := fun x => by
    unfold State.cutSpans
    simp only
    split <;> rfl
  have hnew : ∀ i x, s.flashEntry i = some x → ∀ y, s.cutSpans n k (some x) = some y →
      y.spans = (s.setSlot n r).spansOf x.slot x.field := fun i x hx y hy => by
    rw [hcut, Option.some.injEq] at hy
    rw [State.spansOf_setSlot, ← hy]
    have hold := (h.flash.entry i x hx).spans
    by_cases hn : x.slot = n
    · simp only [hn, true_and, if_true]
      rw [show r.placements = (s.slot n).placements.eraseIdx k from rfl, filterMap_eraseIdx, hold, hn]
      rfl
    · simp only [hn, false_and, if_false]
      exact hold
  have hform := h.replaceSpans hc (r := r) (g := fun e => s.cutSpans n k e) (fun side => by cases side <;> rfl) rfl
    rfl (fun x => ⟨_, hcut x⟩) (fun i x y hx hy => hnew i x hx y hy) fun c i x y href hx hy ⟨sp, hmem, hh⟩ => by
      refine ⟨sp, ?_, hh⟩
      rw [hnew i x hx y hy, State.spansOf_setSlot]
      rw [(h.flash.entry i x hx).spans] at hmem
      split
      · next hn =>
        obtain ⟨q, hq, hqs⟩ := List.mem_filterMap.mp hmem
        refine List.mem_filterMap.mpr ⟨q, ?_, hqs⟩
        have hne : q ≠ p := fun hqp => by
          rw [hblank c i href x.field sp (hqp ▸ hqs)] at hh
          exact nomatch hh
        rw [hn] at hq
        obtain ⟨j, hj⟩ := List.mem_iff_getElem?.mp hq
        refine List.mem_eraseIdx_iff_getElem?.mpr ⟨j, fun hjk => hne ?_, hj⟩
        rw [hjk, hp, Option.some.injEq] at hj
        exact hj.symm
      · exact hmem
  exact hform.congr rfl rfl rfl

end Sys2Proof.Machine
end

-- ==== Proofs: every change keeps flashes and alerts in step ====
section
/-!
O59. The events and the commands keep limits, alerts, flash entries, spans and references in step.
-/

namespace Sys2Proof.Machine

/-! ## The events -/

/-- The ranges and the laws of flashes and alerts together. -/
abbrev InStep (s : State) : Prop := InRange s ∧ AlarmForm s

theorem InStep.decay {s : State} (h : InStep s) : InStep s.decay := by
  refine ⟨inRange_kept.decay s h.1, ?_⟩
  refine (List.foldlRecOn (motive := fun t => Canonical t ∧ AlarmForm t) (s.fau.flash.map (·.1))
    (State.decayEntry s.dtg.counter) ⟨h.1.1.1, h.2⟩ fun t ht i _ =>
      ⟨?_, ht.2.decayEntry ht.1 s.dtg.counter i⟩).2
  unfold State.decayEntry
  split
  · exact ht.1
  · next e he =>
    split
    · exact ht.1
    · split
      · exact ht.1
      · split
        · exact ht.1.endFlash i
        · exact canonical_kept.spent t i e _ ht.1 he

theorem InStep.paint {s : State} (h : InStep s) {n : Nat} {p : Placement} (hp : p ∈ (s.slot n).placements) :
    InStep (s.paint n p) :=
  ⟨inRange_kept.paint s n p h.1 hp,
    h.2.cells (State.writePlacement_frame ..) (h.2.flash.paint h.1.1.1.flash h.1.1.2 hp)⟩

/-- The alert check of a take (R64) keeps the laws, and the slot defined. -/
theorem InStep.alertCheckOf {s : State} (h : InStep s) {n : Nat} (hd : (s.slot n).defined = true)
    (es : List (Field × Int)) : InStep (s.alertCheckOf n es) ∧ ((s.alertCheckOf n es).slot n).defined = true := by
  refine ⟨⟨inRange_kept.alertCheckOf s n es h.1, ?_⟩, ?_⟩ <;> unfold State.alertCheckOf
  · split
    · next e _ =>
      have hc := (inRange_kept.checkLimit s n e.2 .high h.1).1.1
      exact (h.2.checkLimit h.1.1.1 hd e.2 .high).checkLimit hc (State.checkLimit_defined hd ..) e.2 .low
    · exact h.2
  · split
    · exact State.checkLimit_defined (State.checkLimit_defined hd ..) ..
    · exact hd

/-- A take moves price fields only. -/
theorem Slot.mem_moved {r : Slot} {es : List (Field × Int)} {m : Field × MoveKind} (hm : m ∈ r.moved es) :
    m.1 ∈ priceFields := by
  obtain ⟨e, -, he⟩ := List.mem_filterMap.mp hm
  split at he
  · next hmov =>
    have hfield : e.1 ∈ priceFields := by simpa [Field.isMoving] using hmov
    split at he
    · split at he
      · obtain rfl := Option.some.inj he
        exact hfield
      · split at he
        · obtain rfl := Option.some.inj he
          exact hfield
        · exact nomatch he
    · exact nomatch he
  · exact nomatch he

/-- The take of a slot (R61 to R65): values stored, limits checked, flashes started, placements painted. -/
theorem InStep.take {s : State} (h : InStep s) (n : Nat) : InStep (s.take n) := by
  let es := s.pendingOf n
  let s0 := s.removePending n es.length
  have h0 : InStep s0 := ⟨inRange_kept.cme _ _ (inRange_kept.removed s n _ h.1), h.2.congr rfl rfl rfl⟩
  let s1 := s0.setSlot n ((s.slot n).taken es s.cme.frame)
  have h1 : InStep s1 := ⟨inRange_kept.taken s0 n es _ h0.1,
    h0.2.setSlot h0.1.1.1.slots ((s.slot n).taken_keeps es s.cme.frame)⟩
  have hd1 : (s1.slot n).defined = true := by
    rw [State.slot_setSlot, if_pos rfl]
    rfl
  obtain ⟨h2, hd2⟩ := h1.alertCheckOf hd1 es
  have h3 := List.foldlRecOn (motive := fun t => InStep t ∧ (t.slot n).defined = true) ((s.slot n).moved es)
    (fun t m => t.movingStart n m.1 m.2) ⟨h2, hd2⟩ fun t ht m hm =>
      ⟨⟨inRange_kept.movingStart t n m.1 m.2 ht.1.1,
        ht.1.2.movingStart ht.1.1.1.1 ht.1.1.2 ht.2 (Slot.mem_moved hm) m.2⟩,
        ((State.movingStart_frame t n m.1 m.2).slot n).symm ▸ ht.2⟩
  exact paintSlot_keeps (fun t p ht hp => ht.paint hp) _ h3.1

/-- The parts of the events keep the laws of flashes and alerts with the ranges. -/
theorem inStep_kept : EventKept InStep where
  link s t h hs := ⟨inRange_kept.link s t h hs.1, hs.2.congr (by rw [h]) (by rw [h]) (by rw [h])⟩
  dtg s d h := ⟨inRange_kept.dtg s d h.1, h.2.congr rfl rfl rfl⟩
  cme s c h := ⟨inRange_kept.cme s c h.1, h.2.congr rfl rfl rfl⟩
  load s b h := ⟨inRange_kept.load s b h.1, h.2.congr rfl rfl rfl⟩
  advance s w h := ⟨inRange_kept.advance s w h.1, h.2.congr rfl rfl rfl⟩
  clean s h := ⟨inRange_kept.clean s h.1, h.2.congr rfl rfl rfl⟩
  aged s now h := ⟨inRange_kept.aged s now h.1,
    h.2.setSlots h.1.1.1.slots (Table.wf_adjust h.1.1.1.slots fun _ r => r.aged now) fun n => by
      rw [Table.get_adjust h.1.1.1.slots (fun _ r => r.aged now) fun _ => Slot.aged_empty now]
      exact Slot.aged_keeps _ now⟩
  paint _ _ _ h hp := h.paint hp
  decay _ h := h.decay
  take _ n h := h.take n
  acknowledge s n side h := ⟨inRange_kept.acknowledge s n side h.1, h.2.acknowledge h.1.1.1 n side⟩
  line s l x h hl hx := ⟨inRange_kept.line s l x h.1 hl hx, h.2.congr rfl rfl rfl⟩

/-! ## Pages and layouts -/

/-- A page or a layout that no placement names may change, with cells that lose references. -/
theorem AlarmForm.redefine {s t : State} (h : AlarmForm s) (hi : t.itb.slots = s.itb.slots) (hf : t.fau = s.fau)
    (hplace : ∀ n, ∀ p ∈ (s.slot n).placements, t.page p.page = s.page p.page ∧ t.layout p.layout = s.layout p.layout)
    (hcell : ∀ k i, (t.cell k).ref = some i → (s.cell k).ref = some i) : AlarmForm t := by
  have hslot := State.slot_congr (s := s) (t := t) hi
  refine h.of_flashForm hi hf (h.flash.transfer (congrArg Fau.flash hf) (congrArg Fau.order hf)
    (fun i x hx hform => ?_) fun k i hk => h.flash.refs k i (hcell k i hk))
  refine hform.congr (hslot _ ▸ hform.defined) (by rw [hslot]) fun p hp => ?_
  obtain ⟨hpage, hlayout⟩ := hplace x.slot p hp
  exact State.placementSpan_congr hpage hlayout x.field

/-! ## The commands -/

/-- A slot that is not defined has the FREE record (R16). -/
theorem slot_eq_empty {s : State} (h : s.slotLaw) {n : Nat} (hn : (s.slot n).defined = false) : s.slot n = .empty := by
  by_contra hne
  obtain ⟨-, hlaw, -⟩ := h
  have hdef := (hlaw _ (Table.mem_of_get_ne _ _ n hne)).2.1
  rw [show (Table.get .empty s.itb.slots n).defined = false from hn] at hdef
  exact nomatch hdef

/-- Every change keeps limits, alerts, flash entries and references in step. -/
theorem Change.alarmForm {i : Instr} {s t : State} (hc : Change i s t) (hx : InRange s)
    (hfree : ∀ n, (s.slot n).defined = false → s.slot n = .empty) (h : AlarmForm s) : AlarmForm t := by
  obtain ⟨hcan, hpage⟩ := hx.1
  cases hc with
  | same => exact h
  | format => exact h.congr rfl rfl rfl
  | mode => exact h.congr rfl rfl rfl
  | screen => exact h.congr rfl rfl rfl
  | palette => exact h.congr rfl rfl rfl
  | style => exact h.congr rfl rfl rfl
  | fontarea => exact h.congr rfl rfl rfl
  | glyphs => exact h.congr rfl rfl rfl
  | page id pg _ _ _ hnone =>
    refine h.redefine rfl rfl (fun n p hp => ⟨?_, rfl⟩) fun k i hk => ?_
    · obtain ⟨pg', hpg', -⟩ := hpage.placed n p hp
      have hne : p.page ≠ id := fun he => by
        rw [he, hnone] at hpg'
        exact nomatch hpg'
      exact (Table.get_set ..).trans (if_neg hne)
    · change (Table.get .blank (Table.clearRun s.cst.cells pg.base pg.size) k).ref = some i at hk
      rw [Table.get_clearRun] at hk
      split at hk
      · exact nomatch hk
      · exact hk
  | unpage id hplace =>
    refine h.redefine rfl rfl (fun n p hp => ⟨?_, rfl⟩) fun k i hk => hk
    have hne := (anyPlacement_eq_false hcan.slots _).mp hplace n p hp
    exact (Table.get_set ..).trans (if_neg (by simpa using hne))
  | text =>
    refine h.cells (State.writeCells_frame ..) (h.flash.writeCells_plain fun c hc => ?_)
    obtain ⟨code, -, rfl⟩ := List.mem_map.mp hc
    rfl
  | fill pg top left rows cols =>
    refine h.cells (foldl_rel SameButCells .refl (fun _ _ _ => .trans) (fun _ _ => State.writeCells_frame ..) _ _)
      (List.foldlRecOn (motive := FlashForm) _ _ h.flash fun t ht r _ => ht.writeCells_plain fun c hc => ?_)
    rw [List.eq_of_mem_replicate hc]
  | pane => exact h.congr rfl rfl rfl
  | scroll => exact h.congr rfl rfl rfl
  | clip => exact h.congr rfl rfl rfl
  | crawl => exact h.congr rfl rfl rfl
  | crawlctl => exact h.congr rfl rfl rfl
  | define n symbol sc fs stale _ _ _ _ hundef =>
    refine h.setSlot hcan.slots ?_
    rw [hfree n hundef]
    exact ⟨rfl, fun side => by cases side <;> rfl, fun _ => rfl⟩
  | drop n => exact h.dropSlot hcan n
  | layout l cs _ _ _ _ _ _ hplace =>
    refine h.redefine rfl rfl (fun n p hp => ⟨rfl, ?_⟩) fun k i hk => hk
    have hne := (anyPlacement_eq_false hcan.slots _).mp hplace n p hp
    exact (Table.get_set ..).trans (if_neg (by simpa using hne))
  | place n p pg cs _ hpg hcs hrow hcol _ hpool =>
    have hlisted := h.listPlacement hcan n p
    refine hlisted.cells (State.writePlacement_frame ..) (hlisted.flash.paint (hcan.listPlacement n p).flash
      (hpage.listPlacement hcan.slots n ⟨pg, hpg, cs, hcs, hrow, hcol⟩ hpool) ?_)
    change p ∈ ((s.setSlot n _).slot n).placements
    rw [State.slot_setSlot, if_pos rfl]
    exact List.mem_append_right _ (List.mem_singleton_self p)
  | unplace n k p _ hpk =>
    have hframe := State.blankPlacement_frame s p
    refine (h.cells hframe (h.flash.blankPlacement p)).unlistPlacement (hcan.writePlacement _ p) n k (p := p)
      (by rw [hframe.slot]; exact hpk) fun c i href f sp hsp => ?_
    rw [hframe.flash.placementSpan] at hsp
    exact (ref_blankPlacement href).2 f sp hsp
  | post n ps =>
    have h1 : ∀ k, AlarmForm (s.setSlot n { s.slot n with conflation := k }) := fun k =>
      h.setSlot hcan.slots ((s.slot n).keeps_conflation k)
    exact (h1 _).congr rfl rfl rfl
  | pendingFull => exact h.congr rfl rfl rfl
  | limit n side l _ hold hnew hroom => exact h.setLimit hcan.slots hold hnew hroom
  | ack n side => exact h.acknowledge hcan n side
  | hold => exact h.congr rfl rfl rfl
  | qslot n => exact h.setSlot hcan.slots ((s.slot n).keeps_conflation 0)
  | lines => exact h.congr rfl rfl rfl
  | save => exact h.congr rfl rfl rfl
  | saved => exact h.congr rfl rfl rfl
  | reset =>
    exact
      { flash :=
          { index := fun _ _ hx => nomatch hx
            entry := fun _ _ hx => nomatch hx
            distinct := fun _ _ _ _ hx => nomatch hx
            nodup := List.nodup_nil
            order := fun i => ⟨fun hi => (nomatch hi), fun ⟨x, hx⟩ => nomatch hx⟩
            refs := fun _ _ hk => nomatch hk }
        limits :=
          { count := Nat.zero_le _
            recorded := fun _ ha => nomatch ha
            fired := fun n side hf => by cases side <;> exact nomatch hf
            distinct := List.Pairwise.nil }
        backed := fun _ _ hx => nomatch hx
        shown := fun _ ha => nomatch ha }
  | frameStart => exact (inStep_kept.frameStart s ⟨hx, h⟩).2
  | sleepEntry => exact h.congr rfl rfl rfl
  | scanStart => exact (inStep_kept.scanStart s ⟨hx, h⟩).2
  | commitStep => exact (inStep_kept.commitStep s ⟨hx, h⟩).2
  | pinChange => exact h.congr rfl rfl rfl
  | edge l hl => exact (inStep_kept.debouncedEdge s l hl ⟨hx, h⟩).2

/-- Settles O59: read by number, the laws are kept by every change of a waiting command. -/
theorem stepKeepsFlashLaws : Obligations.StepKeepsFlashLaws := by
  intro s t hcan hslot _ hpage hlayout hplace halert hflash href hrange h
  rw [canonical_iff] at hcan
  have hready : InStep s := ⟨⟨⟨hcan, (pageForm_iff hcan).mp ⟨hpage, hlayout, hplace⟩⟩, rangeLaw_iff.mp hrange⟩,
    (alarmForm_iff hcan).mp ⟨halert, hflash, href⟩⟩
  have hlinkP : LinkFree fun s => InStep s ∧ ∀ n, (s.slot n).defined = false → s.slot n = .empty :=
    fun s t h hs => ⟨inStep_kept.link s t h hs.1, fun n hn => by
      have hst := State.slot_congr (s := s) (t := t) (by rw [h]) n
      rw [hst] at hn ⊢
      exact hs.2 n hn⟩
  have hlinkQ : LinkFree fun s => Canonical s ∧ AlarmForm s := fun s t h hs =>
    ⟨canonical_linkFree s t h hs.1, hs.2.congr (by rw [h]) (by rw [h]) (by rw [h])⟩
  obtain ⟨hcan', halarm'⟩ := step_leads hlinkP hlinkQ
    (fun _ _ _ _ h0 hc => ⟨hc.canonical h0.1.1.1.1, hc.alarmForm h0.1.1 h0.2 h0.1.2⟩)
    (fun h0 => ⟨h0.1.1.1.1, h0.1.2⟩) ⟨hready, fun n => slot_eq_empty hslot⟩ h
  exact (alarmForm_iff hcan').mpr halarm'

end Sys2Proof.Machine
end

-- ==== Proofs: requests and their checks ====
section
/-!
SUPPORT. A request's statement from its action: the checks are gone through in their order, and an accepted request is
answered OK in the state its action leaves.
-/

namespace Sys2Proof.Claims

open Sys2Proof.Machine

/-- The action refuses with the first of the checks that fails, and with none failing it accepts, with an outcome that
satisfies `done`. -/
def Answers (act : State → Answer) (s : State) (f : Frame) (checks : List (Bool × Status))
    (done : Frame → State → Prop) : Prop :=
  (∀ st, firstFailure checks = some st → act s.dropHead = refuse st s.dropHead) ∧
    (firstFailure checks = none → ∃ body u, act s.dropHead = accept body u ∧ done f ((accept body u).finish f))

section

variable {act : State → Answer} {s : State} {f : Frame} {done : Frame → State → Prop}

/-- With every check passed the action accepts. -/
theorem Answers.accepted (body : ReplyBody) (u : State) (h : act s.dropHead = accept body u)
    (hd : done f ((accept body u).finish f)) : Answers act s f [] done :=
  ⟨fun _ he => (nomatch he), fun _ => ⟨body, u, h, hd⟩⟩

/-- A check that fails refuses; with it passed the rest decide. -/
theorem Answers.check {c : Bool} {st : Status} {checks : List (Bool × Status)}
    (hfail : c = false → act s.dropHead = refuse st s.dropHead) (hpass : c = true → Answers act s f checks done) :
    Answers act s f ((c, st) :: checks) done := by
  cases c with
  | false => exact ⟨fun st' he => Option.some.inj he ▸ hfail rfl, fun he => nomatch he⟩
  | true => exact hpass rfl

/-- A refusal is queued, and nothing else changes. -/
theorem finish_refuse_eq (s : State) (f : Frame) (st : Status) :
    (refuse st s.dropHead).finish f = refused s f st := rfl

theorem request_of_answers {i : Instr} {checks : List (Bool × Status)} (hf : encodeFrame i = some f)
    (hexec : exec i s = s.serve f act) (h : Answers act s f checks done) : Request i s checks done := by
  intro f' hf' hcan
  obtain rfl : f = f' := Option.some.inj (hf.symm.trans hf')
  rw [hexec, State.serve_taken hcan]
  cases hc : firstFailure checks with
  | some st =>
    change Host.Outcome.next _ = Host.Outcome.next _
    rw [h.1 st hc, finish_refuse_eq]
  | none =>
    obtain ⟨body, u, hu, hd⟩ := h.2 hc
    exact ⟨_, rfl, hu ▸ hd⟩

/-- A request whose body has a wrong length is refused with BAD_LENGTH. -/
theorem wrongLength_of_withOps {i : Instr} {α : Type} {bytes : List Byte} {act : α → State → Answer}
    (hf : encodeFrame i = some f) (hexec : exec i s = s.serve f (withOps (.malformed bytes) act)) :
    WrongLength i s :=
  request_of_answers hf hexec (.check (fun _ => rfl) fun h => nomatch h)

/-- An accepted request whose action leaves the link alone is answered with OK. -/
theorem answered_accept {u : State} (hu : u.fli = s.dropHead.fli) (f : Frame) (body : ReplyBody) :
    Answered s ((accept body u).finish f) f body := by
  unfold Answered linkAfter
  rw [finish_accept, State.reply_fli, hu]
  unfold State.replyFlags
  rw [hu]
  rfl

end

/-! ## Operands -/

theorem upTo?_of_le {n : Nat} {b : Byte} (h : b.toNat ≤ n) : upTo? n b = some b.toNat := if_pos h

theorem between?_of_le {lo hi : Nat} {b : Byte} (h : lo ≤ b.toNat ∧ b.toNat ≤ hi) : between? lo hi b = some b.toNat :=
  if_pos h

theorem paletteIndex?_of_le {b : Byte} (h : b.toNat ≤ 63) : paletteIndex? b = some b.toNat :=
  if_pos (Nat.lt_succ_of_le h)

theorem cellFlags?_of_le {b : Byte} (h : b.toNat ≤ 7) : CellFlags.ofByte? b = some (cellFlags b) :=
  if_pos (Nat.lt_succ_of_le h)

theorem cellFlags?_eq_some {b : Byte} {fl : CellFlags} (h : CellFlags.ofByte? b = some fl) : b.toNat ≤ 7 := by
  unfold CellFlags.ofByte? at h
  split at h
  · omega
  · exact nomatch h

end Sys2Proof.Claims
end

-- ==== Proofs: pages and cells ====
section
/-!
O10, O11, O12. PAGE, UNPAGE, TEXT, FILL, QCELLS and QSLOT: first what each action answers, then the statements.
-/

namespace Sys2Proof.Claims

open Sys2Proof.Machine

/-! ## PAGE and UNPAGE -/

/-- No defined page meets the run, said of the pages' ends. -/
theorem pageOverlap_eq (s : State) (base n : Nat) :
    s.pageOverlap base n = !((List.range 16).all fun i => (s.page i).all fun p =>
      decide (base + n ≤ p.base ∨ p.base + p.rows * p.cols ≤ base)) := by
  unfold State.pageOverlap
  rw [List.not_all_eq_any_not]
  refine congrArg (List.any (List.range 16)) (funext fun i => ?_)
  cases s.page i with
  | none => rfl
  | some p =>
    change runsMeet base n p.base (p.rows * p.cols) = !decide _
    rw [Bool.eq_iff_iff, Bool.not_eq_true', decide_eq_false_iff_not, ← Bool.not_eq_false, runsMeet_eq_false, or_comm]

theorem pageAction_badValue {o : PageOps} (s : State)
    (h : ¬ (o.id.toNat ≤ 15 ∧ 1 ≤ o.rows.toNat ∧ o.rows.toNat ≤ 128 ∧ 1 ≤ o.cols.toNat ∧ o.cols.toNat ≤ 200)) :
    pageAction o s = refuse .badValue s := by
  unfold pageAction
  split
  · next id rows cols hid hrows hcols =>
    obtain ⟨h1, -⟩ := upTo?_eq_some.mp hid
    obtain ⟨h2, -⟩ := between?_eq_some.mp hrows
    obtain ⟨h3, -⟩ := between?_eq_some.mp hcols
    exact absurd ⟨h1, h2.1, h2.2, h3.1, h3.2⟩ h
  · rfl

theorem pageAction_eq {o : PageOps} (s : State)
    (h : o.id.toNat ≤ 15 ∧ 1 ≤ o.rows.toNat ∧ o.rows.toNat ≤ 128 ∧ 1 ≤ o.cols.toNat ∧ o.cols.toNat ≤ 200) :
    pageAction o s =
      if (s.page o.id.toNat).isSome then refuse .inUse s
      else if 24576 < o.base.toNat + o.rows.toNat * o.cols.toNat then refuse .range s
      else if s.pageOverlap o.base.toNat (o.rows.toNat * o.cols.toNat) then refuse .overlap s
      else
        accept .empty ((s.setPages (Table.set none s.cst.pages o.id.toNat
          (some ⟨o.base.toNat, o.rows.toNat, o.cols.toNat⟩))).setCells
          (Table.clearRun s.cst.cells o.base.toNat (o.rows.toNat * o.cols.toNat))) := by
  obtain ⟨h1, h2, h3, h4, h5⟩ := h
  unfold pageAction
  rw [upTo?_of_le h1, between?_of_le ⟨h2, h3⟩, between?_of_le ⟨h4, h5⟩]
  rfl

@[simp] theorem State.page_dropHead (s : State) (i : Nat) : s.dropHead.page i = s.page i := rfl

@[simp] theorem State.anyPlacement_dropHead (s : State) (p : Placement → Bool) :
    s.dropHead.anyPlacement p = s.anyPlacement p := rfl

theorem page_request (s : State) (tag : Byte) (o : PageOps) :
    Request (.page tag (.ops o)) s (pageChecks o s) (fun f t =>
      Answered s t f .empty ∧ t = { s with fli := t.fli, cst := t.cst } ∧
      (∀ i, t.page i =
        if i = o.id.toNat then some ⟨o.base.toNat, o.rows.toNat, o.cols.toNat⟩ else s.page i) ∧
      ∀ k, t.cell k =
        if o.base.toNat ≤ k ∧ k < o.base.toNat + o.rows.toNat * o.cols.toNat then .blank else s.cell k) := by
  refine request_of_answers (act := pageAction o) rfl rfl ?_
  unfold pageChecks
  refine .check (fun hbad => pageAction_badValue _ (of_decide_eq_false hbad)) fun hval => ?_
  have heq := pageAction_eq s.dropHead (of_decide_eq_true hval)
  refine .check (fun hused => ?_) fun hfree => .check (fun hbig => ?_) fun hfits => .check (fun hmeet => ?_)
    fun happart => ?_
  · exact heq.trans (if_pos (by simpa using hused))
  all_goals rw [if_neg (by simpa using hfree)] at heq
  · exact heq.trans (if_pos (by simpa using hbig))
  all_goals rw [if_neg (by simpa using hfits), pageOverlap_eq] at heq
  · exact heq.trans (if_pos (by rw [Bool.not_eq_true']; exact hmeet))
  · refine .accepted _ _ (heq.trans (if_neg ?_)) ⟨answered_accept rfl _ _, rfl, fun i => Table.get_set ..,
      fun k => Table.get_clearRun ..⟩
    rw [Bool.not_eq_true', Bool.not_eq_false]
    exact happart

theorem unpageAction_eq {o : UnpageOps} (s : State) (h : o.id.toNat ≤ 15) :
    unpageAction o s =
      if (s.page o.id.toNat).isNone then refuse .noPage s
      else if s.anyPlacement fun p => p.page == o.id.toNat then refuse .inUse s
      else if s.sco.staged.namesPage o.id.toNat || s.sco.active.namesPage o.id.toNat then refuse .inUse s
      else accept .empty (s.setPages (Table.set none s.cst.pages o.id.toNat none)) := by
  unfold unpageAction
  rw [upTo?_of_le h]

/-- No pane of either copy names the page, said of both copies at once. -/
theorem namesPage_eq (a b : Composition) (id : Nat) :
    (a.namesPage id || b.namesPage id) =
      !((List.range 8).all fun p => (a.pane p).page != some id && (b.pane p).page != some id) := by
  unfold Composition.namesPage
  rw [List.not_all_eq_any_not, Bool.eq_iff_iff]
  simp only [Bool.or_eq_true, List.any_eq_true, Bool.not_and, bne, Bool.not_not]
  constructor
  · rintro (⟨p, hp, h⟩ | ⟨p, hp, h⟩)
    · exact ⟨p, hp, .inl h⟩
    · exact ⟨p, hp, .inr h⟩
  · rintro ⟨p, hp, h | h⟩
    · exact .inl ⟨p, hp, h⟩
    · exact .inr ⟨p, hp, h⟩

theorem unpage_request (s : State) (tag : Byte) (o : UnpageOps) :
    Request (.unpage tag (.ops o)) s (unpageChecks o s) (fun f t =>
      Answered s t f .empty ∧ t = { s with fli := t.fli, cst := { s.cst with pages := t.cst.pages } } ∧
      ∀ i, t.page i = if i = o.id.toNat then none else s.page i) := by
  refine request_of_answers (act := unpageAction o) rfl rfl ?_
  unfold unpageChecks
  refine .check (fun hbad => ?_) fun hval => ?_
  · unfold unpageAction upTo?
    rw [if_neg (of_decide_eq_false hbad)]
  have heq := unpageAction_eq s.dropHead (of_decide_eq_true hval)
  refine .check (fun hnone => ?_) fun hsome => .check (fun hplaced => ?_) fun hunplaced => .check (fun hnamed => ?_)
    fun hunnamed => ?_
  · exact heq.trans (if_pos (by simpa using hnone))
  all_goals rw [if_neg (by simpa [← Option.isSome_iff_ne_none] using hsome)] at heq
  · exact heq.trans (if_pos (by simpa using hplaced))
  all_goals rw [if_neg (by simpa using hunplaced), namesPage_eq] at heq
  · exact heq.trans (if_pos (by rw [Bool.not_eq_true']; exact hnamed))
  · refine .accepted _ _ (heq.trans (if_neg ?_)) ⟨answered_accept rfl _ _, rfl, fun i => Table.get_set ..⟩
    rw [Bool.not_eq_true', Bool.not_eq_false]
    exact hunnamed

/-- Settles O10: PAGE and UNPAGE from their actions, check by check. -/
theorem pageDefinesUnpageRemoves : Obligations.PageDefinesUnpageRemoves :=
  ⟨fun s tag o => ⟨page_request s tag o, fun _ => wrongLength_of_withOps rfl rfl⟩,
    fun s tag o => ⟨unpage_request s tag o, fun _ => wrongLength_of_withOps rfl rfl⟩⟩

/-! ## TEXT and FILL -/

theorem textAction_badValue {o : TextOps} (s : State)
    (h : ¬ (o.id.toNat ≤ 15 ∧ 1 ≤ o.codes.length ∧ o.codes.length ≤ 200 ∧ o.fg.toNat ≤ 63 ∧ o.bg.toNat ≤ 63 ∧
      o.flags.toNat ≤ 7)) : textAction o s = refuse .badValue s := by
  unfold textAction
  split
  · next id fg bg flags hid hfg hbg hflags =>
    split
    · rfl
    · next hlen =>
      obtain ⟨h1, -⟩ := upTo?_eq_some.mp hid
      obtain ⟨h2, -⟩ := paletteIndex?_eq_some.mp hfg
      obtain ⟨h3, -⟩ := paletteIndex?_eq_some.mp hbg
      have h4 := cellFlags?_eq_some hflags
      exact absurd ⟨h1, by omega, by omega, by omega, by omega, h4⟩ h
  · rfl

/-- A request for a run of a page: refused without the page, or where the run does not lie in it. -/
def inPage (pg : Option Page) (fits : Page → Prop) [DecidablePred fits] (act : Page → State → Answer) (s : State) :
    Answer :=
  match pg with
  | none => refuse .noPage s
  | some pg => if fits pg then act pg s else refuse .range s

theorem inPage_none {fits : Page → Prop} [DecidablePred fits] {act : Page → State → Answer} {s : State}
    {pg : Option Page} (h : pg.isSome = false) : inPage pg fits act s = refuse .noPage s := by
  cases pg with
  | none => rfl
  | some pg => exact nomatch h

theorem inPage_range {fits : Page → Prop} [DecidablePred fits] {act : Page → State → Answer} {s : State}
    {pg : Option Page} (h : pg.isSome = true) (hr : (pg.any fun p => decide (fits p)) = false) :
    inPage pg fits act s = refuse .range s := by
  cases pg with
  | none => exact nomatch h
  | some pg => exact if_neg (of_decide_eq_false hr)

theorem inPage_fits {fits : Page → Prop} [DecidablePred fits] {act : Page → State → Answer} {s : State}
    {pg : Option Page} (hr : (pg.any fun p => decide (fits p)) = true) :
    ∃ p, pg = some p ∧ fits p ∧ inPage pg fits act s = act p s := by
  cases pg with
  | none => exact nomatch hr
  | some p => exact ⟨p, rfl, of_decide_eq_true hr, if_pos (of_decide_eq_true hr)⟩

theorem textAction_eq {o : TextOps} (s : State)
    (h : o.id.toNat ≤ 15 ∧ 1 ≤ o.codes.length ∧ o.codes.length ≤ 200 ∧ o.fg.toNat ≤ 63 ∧ o.bg.toNat ≤ 63 ∧
      o.flags.toNat ≤ 7) :
    textAction o s = inPage (s.page o.id.toNat)
      (fun p => o.row.toNat < p.rows ∧ o.col.toNat + o.codes.length ≤ p.cols)
      (fun p s => accept .empty (s.writeCells (p.cellIndex o.row.toNat o.col.toNat)
        (o.codes.map fun c => ⟨c, o.fg.toNat, o.bg.toNat, cellFlags o.flags, none, false⟩))) s := by
  obtain ⟨h1, h2, h3, h4, h5, h6⟩ := h
  unfold textAction
  rw [upTo?_of_le h1, paletteIndex?_of_le h4, paletteIndex?_of_le h5, cellFlags?_of_le h6]
  simp only
  rw [if_neg (by omega)]
  cases s.page o.id.toNat <;> rfl

theorem text_request (s : State) (tag : Byte) (o : TextOps) :
    Request (.text tag (.ops o)) s (textChecks o s) (fun f t =>
      Answered s t f .empty ∧ t = { s with fli := t.fli, cst := { s.cst with cells := t.cst.cells } } ∧
      ∀ pg, s.page o.id.toNat = some pg → ∀ k,
        let a := pg.base + o.row.toNat * pg.cols + o.col.toNat
        t.cell k =
          if a ≤ k ∧ k < a + o.codes.length then
            ⟨o.codes.getD (k - a) 0, o.fg.toNat, o.bg.toNat, cellFlags o.flags, none, false⟩
          else s.cell k) := by
  refine request_of_answers (act := textAction o) rfl rfl ?_
  unfold textChecks
  refine .check (fun hbad => textAction_badValue _ (of_decide_eq_false hbad)) fun hval => ?_
  have heq := textAction_eq s.dropHead (of_decide_eq_true hval)
  refine .check (fun hnone => heq.trans (inPage_none hnone)) fun hsome =>
    .check (fun hout => heq.trans (inPage_range hsome hout)) fun hin => ?_
  obtain ⟨p, hp, -, hact⟩ := inPage_fits hin
  refine .accepted _ _ (heq.trans hact) ⟨answered_accept rfl _ _, rfl, fun pg hpg k => ?_⟩
  obtain rfl : p = pg := Option.some.inj (hp.symm.trans hpg)
  refine (State.cell_writeCells s.dropHead _ _ k).trans ?_
  rw [List.length_map]
  unfold Page.cellIndex
  split
  · next hk =>
    rw [List.getD_eq_getElem _ _ (by rw [List.length_map]; omega), List.getD_eq_getElem _ _ (by omega),
      List.getElem_map]
  · rfl

theorem fillAction_badValue {o : FillOps} (s : State)
    (h : ¬ (o.id.toNat ≤ 15 ∧ 1 ≤ o.rows.toNat ∧ o.rows.toNat ≤ 128 ∧ 1 ≤ o.cols.toNat ∧ o.cols.toNat ≤ 200 ∧
      o.fg.toNat ≤ 63 ∧ o.bg.toNat ≤ 63 ∧ o.flags.toNat ≤ 7)) : fillAction o s = refuse .badValue s := by
  unfold fillAction
  split
  · next id rows cols fg bg flags hid hrows hcols hfg hbg hflags =>
    obtain ⟨h1, -⟩ := upTo?_eq_some.mp hid
    obtain ⟨h2, -⟩ := between?_eq_some.mp hrows
    obtain ⟨h3, -⟩ := between?_eq_some.mp hcols
    obtain ⟨h4, -⟩ := paletteIndex?_eq_some.mp hfg
    obtain ⟨h5, -⟩ := paletteIndex?_eq_some.mp hbg
    have h6 := cellFlags?_eq_some hflags
    exact absurd ⟨h1, h2.1, h2.2, h3.1, h3.2, by omega, by omega, h6⟩ h
  · rfl

theorem fillAction_eq {o : FillOps} (s : State)
    (h : o.id.toNat ≤ 15 ∧ 1 ≤ o.rows.toNat ∧ o.rows.toNat ≤ 128 ∧ 1 ≤ o.cols.toNat ∧ o.cols.toNat ≤ 200 ∧
      o.fg.toNat ≤ 63 ∧ o.bg.toNat ≤ 63 ∧ o.flags.toNat ≤ 7) :
    fillAction o s = inPage (s.page o.id.toNat)
      (fun p => o.top.toNat + o.rows.toNat ≤ p.rows ∧ o.left.toNat + o.cols.toNat ≤ p.cols)
      (fun p s => accept .empty (s.fillRect p o.top.toNat o.left.toNat o.rows.toNat o.cols.toNat
        ⟨o.code, o.fg.toNat, o.bg.toNat, cellFlags o.flags, none, false⟩)) s := by
  obtain ⟨h1, h2, h3, h4, h5, h6, h7, h8⟩ := h
  unfold fillAction
  rw [upTo?_of_le h1, between?_of_le ⟨h2, h3⟩, between?_of_le ⟨h4, h5⟩, paletteIndex?_of_le h6, paletteIndex?_of_le h7,
    cellFlags?_of_le h8]
  simp only
  cases s.page o.id.toNat <;> rfl

/-- The cell lies in one of the first `rows` rows of the rectangle. -/
def inRect (pg : Page) (top left rows cols k : Nat) : Prop :=
  ∃ r c, r < rows ∧ c < cols ∧ k = pg.base + (top + r) * pg.cols + (left + c)

/-- The cells of the rectangle hold the cell, every other what it held (R11). -/
theorem State.cell_fillRect (s : State) (pg : Page) (top left rows cols : Nat) (c : Cell) (k : Nat) :
    (inRect pg top left rows cols k → (s.fillRect pg top left rows cols c).cell k = c) ∧
      (¬ inRect pg top left rows cols k → (s.fillRect pg top left rows cols c).cell k = s.cell k) := by
  induction rows with
  | zero => exact ⟨fun ⟨r, _, hr, _⟩ => absurd hr (Nat.not_lt_zero r), fun _ => rfl⟩
  | succ rows ih =>
    have hstep : s.fillRect pg top left (rows + 1) cols c =
        (s.fillRect pg top left rows cols c).writeCells (pg.cellIndex (top + rows) left) (List.replicate cols c) := by
      unfold State.fillRect
      rw [List.range_succ, List.foldl_append]
      rfl
    rw [hstep, State.cell_writeCells, List.length_replicate]
    unfold Page.cellIndex
    split
    · next hk =>
      have hlast : inRect pg top left (rows + 1) cols k :=
        ⟨rows, k - (pg.base + (top + rows) * pg.cols + left), by omega, by omega, by omega⟩
      rw [List.getD_eq_getElem _ _ (by rw [List.length_replicate]; omega), List.getElem_replicate]
      exact ⟨fun _ => rfl, fun h => absurd hlast h⟩
    · next hk =>
      have hsame : inRect pg top left (rows + 1) cols k ↔ inRect pg top left rows cols k := by
        constructor
        · rintro ⟨r, x, hr, hx, rfl⟩
          have hne : r ≠ rows := fun he => hk (by rw [he]; omega)
          exact ⟨r, x, by omega, hx, rfl⟩
        · rintro ⟨r, x, hr, hx, rfl⟩
          exact ⟨r, x, by omega, hx, rfl⟩
      rw [hsame]
      exact ih

theorem State.fillRect_frame (s : State) (pg : Page) (top left rows cols : Nat) (c : Cell) :
    SameButCells s (s.fillRect pg top left rows cols c) :=
  foldl_rel SameButCells .refl (fun _ _ _ => .trans) (fun _ _ => State.writeCells_frame ..) _ _

theorem fill_request (s : State) (tag : Byte) (o : FillOps) :
    Request (.fill tag (.ops o)) s (fillChecks o s) (fun f t =>
      Answered s t f .empty ∧ t = { s with fli := t.fli, cst := { s.cst with cells := t.cst.cells } } ∧
      ∀ pg, s.page o.id.toNat = some pg → ∀ k,
        ((∃ r c, r < o.rows.toNat ∧ c < o.cols.toNat ∧
            k = pg.base + (o.top.toNat + r) * pg.cols + (o.left.toNat + c)) →
          t.cell k = ⟨o.code, o.fg.toNat, o.bg.toNat, cellFlags o.flags, none, false⟩) ∧
        ((∀ r c, r < o.rows.toNat → c < o.cols.toNat →
            k ≠ pg.base + (o.top.toNat + r) * pg.cols + (o.left.toNat + c)) →
          t.cell k = s.cell k)) := by
  refine request_of_answers (act := fillAction o) rfl rfl ?_
  unfold fillChecks
  refine .check (fun hbad => fillAction_badValue _ (of_decide_eq_false hbad)) fun hval => ?_
  have heq := fillAction_eq s.dropHead (of_decide_eq_true hval)
  refine .check (fun hnone => heq.trans (inPage_none hnone)) fun hsome =>
    .check (fun hout => heq.trans (inPage_range hsome hout)) fun hin => ?_
  obtain ⟨p, hp, -, hact⟩ := inPage_fits hin
  have hframe := State.fillRect_frame s.dropHead p o.top.toNat o.left.toNat o.rows.toNat o.cols.toNat
    ⟨o.code, o.fg.toNat, o.bg.toNat, cellFlags o.flags, none, false⟩
  refine .accepted _ _ (heq.trans hact) ⟨answered_accept (by rw [hframe]; rfl) _ _, ?_, fun pg hpg k => ?_⟩
  · rw [finish_accept, hframe]
    rfl
  · obtain rfl : p = pg := Option.some.inj (hp.symm.trans hpg)
    obtain ⟨hin, hout⟩ := State.cell_fillRect s.dropHead p o.top.toNat o.left.toNat o.rows.toNat o.cols.toNat _ k
    exact ⟨hin, fun hno => hout fun ⟨r, c, hr, hc, hk⟩ => hno r c hr hc hk⟩

/-- Settles O11: TEXT and FILL from their actions, check by check; FILL by induction on its rows. -/
theorem textAndFillWrite : Obligations.TextAndFillWrite :=
  ⟨fun s tag o => ⟨text_request s tag o, fun _ => wrongLength_of_withOps rfl rfl⟩,
    fun s tag o => ⟨fill_request s tag o, fun _ => wrongLength_of_withOps rfl rfl⟩⟩

/-! ## QCELLS and QSLOT -/

theorem qcellsAction_badValue {o : QcellsOps} (s : State)
    (h : ¬ (o.id.toNat ≤ 15 ∧ 1 ≤ o.count.toNat ∧ o.count.toNat ≤ 64)) :
    qcellsAction o s = refuse .badValue s := by
  unfold qcellsAction
  split
  · next id n hid hn =>
    obtain ⟨h1, -⟩ := upTo?_eq_some.mp hid
    obtain ⟨h2, -⟩ := between?_eq_some.mp hn
    exact absurd ⟨h1, h2⟩ h
  · rfl

theorem qcellsAction_eq {o : QcellsOps} (s : State)
    (h : o.id.toNat ≤ 15 ∧ 1 ≤ o.count.toNat ∧ o.count.toNat ≤ 64) :
    qcellsAction o s = inPage (s.page o.id.toNat)
      (fun p => o.row.toNat < p.rows ∧ o.col.toNat + o.count.toNat ≤ p.cols)
      (fun p s => accept (.cells (s.readCells (p.cellIndex o.row.toNat o.col.toNat) o.count.toNat)) s) s := by
  unfold qcellsAction
  rw [upTo?_of_le h.1, between?_of_le h.2]
  simp only
  cases s.page o.id.toNat <;> rfl

theorem qcells_request (s : State) (tag : Byte) (o : QcellsOps) :
    Request (.qcells tag (.ops o)) s (qcellsChecks o s) (fun f t =>
      t = { s with fli := t.fli } ∧
      ∀ pg, s.page o.id.toNat = some pg →
        Answered s t f (.cells ((List.range o.count.toNat).map fun j =>
          s.cell (pg.base + o.row.toNat * pg.cols + (o.col.toNat + j))))) := by
  refine request_of_answers (act := qcellsAction o) rfl rfl ?_
  unfold qcellsChecks
  refine .check (fun hbad => qcellsAction_badValue _ (of_decide_eq_false hbad)) fun hval => ?_
  have heq := qcellsAction_eq s.dropHead (of_decide_eq_true hval)
  refine .check (fun hnone => heq.trans (inPage_none hnone)) fun hsome =>
    .check (fun hout => heq.trans (inPage_range hsome hout)) fun hin => ?_
  obtain ⟨p, hp, -, hact⟩ := inPage_fits hin
  refine .accepted _ _ (heq.trans hact) ⟨rfl, fun pg hpg => ?_⟩
  obtain rfl : p = pg := Option.some.inj (hp.symm.trans hpg)
  have hcells : s.dropHead.readCells (p.cellIndex o.row.toNat o.col.toNat) o.count.toNat =
      (List.range o.count.toNat).map fun j => s.cell (p.base + o.row.toNat * p.cols + (o.col.toNat + j)) :=
    List.map_congr_left fun j _ => congrArg s.cell (Nat.add_assoc ..)
  rw [hcells]
  exact answered_accept rfl _ _

/-- The fields of the pending entries are the field numbers that hold a value, in field order. -/
theorem pendingOf_fields (s : State) (n : Nat) :
    (s.pendingOf n).map (fun e => e.1.num) = (List.range 8).filter fun i => (s.pendingValue n i).isSome := by
  have hlist : ∀ l : List Field,
      (l.filterMap fun f => (s.pendingValue n f.num).map fun v => (f, v)).map (fun e => e.1.num) =
        (l.map Field.num).filter fun i => (s.pendingValue n i).isSome := by
    intro l
    induction l with
    | nil => rfl
    | cons f l ih => cases hv : s.pendingValue n f.num <;> simp [hv, ih]
  exact hlist allFields

theorem qslot_request (s : State) (tag : Byte) (o : QslotOps) :
    Request (.qslot tag (.ops o)) s [] (fun f t =>
      let n := o.slot.toNat
      Answered s t f (.slot (s.slot n) ((List.range 8).filter fun i => (s.pendingValue n i).isSome)
        (s.upq.dirty.findIdx? fun m => m = n)) ∧
      t = { s with fli := t.fli, itb := { s.itb with slots := t.itb.slots } } ∧
      ∀ m, t.slot m = if m = n then { s.slot n with conflation := 0 } else s.slot m) := by
  refine request_of_answers (act := qslotAction o) rfl rfl (.accepted _ _ rfl ⟨?_, rfl, fun m => Table.get_set ..⟩)
  have hfields : (s.dropHead.pendingOf o.slot.toNat).map (fun e => e.1.num) = _ := pendingOf_fields s o.slot.toNat
  rw [hfields]
  exact answered_accept rfl _ _

/-- Settles O12: QCELLS and QSLOT from their actions. -/
theorem qcellsAndQslotRead : Obligations.QcellsAndQslotRead :=
  ⟨fun s tag o => ⟨qcells_request s tag o, fun _ => wrongLength_of_withOps rfl rfl⟩,
    fun s tag o => ⟨qslot_request s tag o, fun _ => wrongLength_of_withOps rfl rfl⟩⟩

end Sys2Proof.Claims
end

-- ==== Proofs: what the events leave ====
section
/-!
SUPPORT. What the events of the display, of the commit and of the lines leave in the slots, the Update Queue and the
Commit Engine: an equation for each block, where the parts of the event write none of it.
-/

namespace Sys2Proof.Machine

/-! ## Tables -/

/-- A canonical table with a record set has one entry more where the number read as the default and now does not. -/
theorem Table.length_set {β : Type} [DecidableEq β] {d : β} {t : Table β} (ht : Table.wf d t = true) (k : Nat) {v : β}
    (hv : v ≠ d) : (Table.set d t k v).length = t.length + (if Table.get d t k = d then 1 else 0) := by
  have hlen : ∀ u : Table β, Table.wf d u = true →
      (u.map fun e => if e.2 = d then 0 else 1).sum = u.length := fun u hu => by
    have hd := ((Table.wf_iff d u).mp hu).2
    rw [List.map_congr_left fun e he => if_neg (hd e he)]
    simp
  have hsum := Table.sum_set ht (f := fun w => if w = d then 0 else 1) (if_pos rfl) k v
  rw [hlen _ ht, hlen _ (Table.wf_set ht k v)] at hsum
  simp only [if_neg hv] at hsum
  split at hsum <;> simp_all

/-! ## Records -/

/-- Nothing but the two limits of a record. -/
def Slot.SameButLimits (r r' : Slot) : Prop := r' = { r with high := r'.high, low := r'.low }

theorem Slot.SameButLimits.refl (r : Slot) : r.SameButLimits r := rfl

theorem Slot.SameButLimits.trans {r r' r'' : Slot} (h : r.SameButLimits r') (h' : r'.SameButLimits r'') :
    r.SameButLimits r'' := by
  unfold Slot.SameButLimits at *
  rw [h'] at ⊢
  rw [h]

theorem Slot.setLimit_sameButLimits (r : Slot) (side : Side) (l : Limit) : r.SameButLimits (r.setLimit side l) :=
  Slot.setLimit_eq r side l

/-! ## Limits and flashes -/

/-- A limit that fires replaces the limit of its slot, and no other part of the slots. -/
theorem State.fire_slots (s : State) (n : Nat) (side : Side) (level v : Int) :
    (s.fire n side level v).itb.slots = (s.setSlot n ((s.slot n).setLimit side (.fired level))).itb.slots := by
  let s1 := s.setSlot n ((s.slot n).setLimit side (.fired level))
  let a : AlertRec := ⟨n, side, level, v, s.cme.frame⟩
  let s2 := s1.setFau { s1.fau with alerts := s1.fau.alerts ++ [a] }
  have hnotice : (s.fire n side level v).itb = (s2.alertFlash n).itb := by
    change ((s2.alertFlash n).alertNotice .fired a).itb = _
    rw [State.alertNotice_frame (s2.alertFlash n) .fired a]
  rw [hnotice, (State.alertFlash_frame s2 n).itb]
  rfl

/-- One limit of the alert check leaves the slots or fires the limit. -/
theorem State.checkLimit_slots (s : State) (n : Nat) (v : Int) (side : Side) :
    (s.checkLimit n v side).itb.slots = s.itb.slots ∨
      ∃ level, (s.checkLimit n v side).itb.slots =
        (s.setSlot n ((s.slot n).setLimit side (.fired level))).itb.slots := by
  unfold State.checkLimit
  split
  · next level _ =>
    split
    · exact .inr ⟨level, State.fire_slots ..⟩
    · exact .inl rfl
  · exact .inl rfl
  · exact .inl rfl

theorem State.checkLimit_slot (s : State) (n : Nat) (v : Int) (side : Side) (m : Nat) :
    (s.slot m).SameButLimits ((s.checkLimit n v side).slot m) ∧ (m ≠ n → (s.checkLimit n v side).slot m = s.slot m) := by
  rcases s.checkLimit_slots n v side with h | ⟨level, h⟩ <;> rw [State.slot_congr h]
  · exact ⟨.refl _, fun _ => rfl⟩
  · rw [State.slot_setSlot]
    split
    · next hm => exact ⟨hm ▸ Slot.setLimit_sameButLimits .., fun hne => absurd hm hne⟩
    · exact ⟨.refl _, fun _ => rfl⟩

theorem State.alertCheckOf_slot (s : State) (n : Nat) (es : List (Field × Int)) (m : Nat) :
    (s.slot m).SameButLimits ((s.alertCheckOf n es).slot m) ∧
      (m ≠ n → (s.alertCheckOf n es).slot m = s.slot m) := by
  unfold State.alertCheckOf
  split
  · next e _ =>
    obtain ⟨h1, h1'⟩ := s.checkLimit_slot n e.2 .high m
    obtain ⟨h2, h2'⟩ := (s.checkLimit n e.2 .high).checkLimit_slot n e.2 .low m
    exact ⟨h1.trans h2, fun hm => (h2' hm).trans (h1' hm)⟩
  · exact ⟨.refl _, fun _ => rfl⟩

theorem State.alertCheckOf_frame (s : State) (n : Nat) (es : List (Field × Int)) :
    SameButAlerts s (s.alertCheckOf n es) := by
  unfold State.alertCheckOf
  split
  · exact State.alertCheck_frame ..
  · exact .refl s

/-- An acknowledgement disarms the limit, and changes no other part of the slots. -/
theorem State.acknowledge_slots (s : State) (n : Nat) (side : Side) :
    (s.acknowledge n side).itb.slots = (s.setSlot n ((s.slot n).setLimit side .disarmed)).itb.slots := by
  unfold State.acknowledge
  simp only
  split
  · rfl
  · rw [(State.endAlertFlash_frame ..).itb]
    rfl

/-! ## The take -/

/-- The state in which a take has stored its values (R61 to R63). -/
def State.stored (s : State) (n : Nat) : State :=
  (s.removePending n (s.pendingOf n).length).setSlot n ((s.slot n).taken (s.pendingOf n) s.cme.frame)

/-- The state in which a take paints: the limits checked and the flashes started (R64). -/
def State.started (s : State) (n : Nat) : State :=
  ((s.slot n).moved (s.pendingOf n)).foldl (fun s m => s.movingStart n m.1 m.2)
    ((s.stored n).alertCheckOf n (s.pendingOf n))

theorem State.take_eq (s : State) (n : Nat) : s.take n = (s.started n).paintSlot n := rfl

theorem State.started_frame (s : State) (n : Nat) :
    SameButFlash ((s.stored n).alertCheckOf n (s.pendingOf n)) (s.started n) :=
  foldl_rel SameButFlash .refl (fun _ _ _ => .trans) (fun _ _ => State.movingStart_frame ..) _ _

/-- After the values are stored a take changes cells, limits, flashes, alerts and notices only. -/
theorem State.take_frame (s : State) (n : Nat) : SameButAlerts (s.stored n) (s.take n) :=
  (State.alertCheckOf_frame ..).trans
    ((s.started_frame n).alerts.trans (State.paintSlot_frame (s.started n) n).flash.alerts)

/-- The slots of a take are those that its alert check leaves. -/
theorem State.take_slots (s : State) (n : Nat) :
    (s.take n).itb = ((s.stored n).alertCheckOf n (s.pendingOf n)).itb :=
  (State.paintSlot_frame (s.started n) n).itb.trans (s.started_frame n).itb

/-- A pending entry of a slot is a field with its pending value. -/
theorem State.mem_pendingOf {s : State} {n : Nat} {e : Field × Int} :
    e ∈ s.pendingOf n ↔ s.pendingValue n e.1.num = some e.2 := by
  have hall : ∀ f : Field, f ∈ allFields := fun f => by cases f <;> decide
  unfold State.pendingOf
  rw [List.mem_filterMap]
  constructor
  · rintro ⟨f, -, hf⟩
    obtain ⟨v, hv, rfl⟩ := Option.map_eq_some_iff.mp hf
    exact hv
  · exact fun h => ⟨e.1, hall _, by rw [h]; rfl⟩

/-! ## The frame start -/

/-- Ageing at an unheld frame start before any repaint (R107). -/
def State.agedSlots (s : State) (now : FrameNo) : State :=
  s.setSlots (Table.adjust .empty (fun _ r => r.aged now) s.itb.slots)

/-- Nothing but the cells and the count of choices. -/
def SameButRepaint (s t : State) : Prop :=
  t = { s with choices := t.choices, cst := { s.cst with cells := t.cst.cells } }

/-- After the records have aged, ageing repaints cells, in an order that is a free choice. -/
theorem State.ageSlots_frame (s : State) (now : FrameNo) : SameButRepaint (s.agedSlots now) (s.ageSlots now) := by
  have hfold : ∀ (l : List Nat) (t : State), SameButCells t (l.foldl State.paintSlot t) := fun l t =>
    foldl_rel SameButCells .refl (fun _ _ _ => .trans) (fun t n => State.paintSlot_frame t n) l t
  unfold State.ageSlots
  simp only
  split
  · unfold SameButRepaint
    rw [hfold]
    rfl
  · unfold SameButRepaint
    rw [hfold]
    rfl

/-- The frame start in which the generator has acted, the clean count is done and the Commit Engine has begun or holds
(R53, R57, R58, R161). -/
def State.begun (s : State) (held : Bool) : State :=
  let s0 := s.setDtg s.dtg.frameStart
  let s1 := s0.setFli { s0.fli with rdyStart := s0.fli.rdyStart.frameStart }
  let s2 := s1.setUpq s1.upq.frameStart
  s2.setCme (s2.cme.frameStart s2.dtg.counter held)

/-- The frame start up to the compositor: after the begin a held one offers its notice, and in another one the flash
table decays and the slots age (R59, R105, R107). -/
def State.acted (s : State) (held : Bool) : State :=
  if held then (s.begun held).heldNotice s.upq.overload (s.begun held).upq.overload
  else (s.begun held).decay.ageSlots (s.begun held).dtg.counter

/-- The compositor acts last at a frame start. -/
theorem State.frameStart_eq (s : State) : ∃ c, s.frameStart = (s.acted s.held).setSco c := by
  change ∃ c, (if s.held then (s.acted s.held).setSco _ else ((s.acted s.held).setSco _).setSco _) = _
  generalize s.acted s.held = t
  split
  · exact ⟨_, rfl⟩
  · exact ⟨_, rfl⟩

theorem State.heldNotice_link (s : State) (before after : Bool) : SameButLink s (s.heldNotice before after) := by
  unfold State.heldNotice
  split
  · split
    · exact (State.frameNotice_frame ..).link
    · exact SameButLink.trans (t := s.draw) rfl (State.frameNotice_frame ..).link
  · exact .refl s

/-- What the blocks hold after a frame start: the slots aged where it is not held. -/
structure FrameStarted (s t : State) : Prop where
  pages : t.cst.pages = s.cst.pages
  layouts : t.itb.layouts = s.itb.layouts
  slots : t.itb.slots = if s.held then s.itb.slots
    else Table.adjust .empty (fun _ r => r.aged (s.dtg.counter + 1)) s.itb.slots
  upq : t.upq = s.upq.frameStart
  cme : t.cme = s.cme.frameStart (s.dtg.counter + 1) s.held
  dtg : t.dtg = s.dtg.frameStart
  gcu : t.gcu = s.gcu

theorem State.frameStart_started (s : State) : FrameStarted s s.frameStart := by
  obtain ⟨c, hc⟩ := s.frameStart_eq
  cases h : s.held
  · have hage : SameButRepaint _ (s.acted false) := State.ageSlots_frame (s.begun false).decay (s.begun false).dtg.counter
    have hdecay := State.decay_frame (s.begun false)
    rw [hc, h, hage, hdecay]
    exact ⟨rfl, rfl, by rw [h]; rfl, rfl, by rw [h]; rfl, rfl, rfl⟩
  · have hlink : SameButLink (s.begun true) (s.acted true) := State.heldNotice_link ..
    rw [hc, h, hlink]
    exact ⟨rfl, rfl, by rw [h]; rfl, rfl, by rw [h]; rfl, rfl, rfl⟩

/-! ## The edge of a line -/

/-- A debounced edge is noted in its line, and may acknowledge the head of the alert queue; what follows are
notices. -/
theorem State.debouncedEdge_cases (s : State) (l : Nat) :
    SameButLink (s.setLine l (s.line l).edge) (s.debouncedEdge l) ∨
      SameButLink (s.setLine l (s.line l).edge).acknowledgeHead (s.debouncedEdge l) := by
  unfold State.debouncedEdge
  simp only
  split
  · unfold State.ackEdge
    split
    · exact .inl (State.lineNotice_frame ..).link
    · refine .inr ?_
      simp only
      split
      · refine SameButLink.trans (t := (s.setLine l (s.line l).edge).acknowledgeHead.draw) rfl ?_
        split
        · exact (State.alertNotice_frame ..).link.trans (State.lineNotice_frame ..).link
        · exact (State.lineNotice_frame ..).link.trans (State.alertNotice_frame ..).link
      · exact (State.alertNotice_frame ..).link.trans (State.lineNotice_frame ..).link
  · exact .inl (State.lineNotice_frame ..).link

end Sys2Proof.Machine
end

-- ==== Proofs: slots, pending pool, dirty list and commit ====
section
/-!
SUPPORT and O56. The laws of the slots (`SlotForm`), of the Update Queue (`PoolForm`) and of the commit, read by number,
are kept together by every change: a take needs the pool's ranges and the list, a POST the slots.
-/

namespace Sys2Proof.Machine

/-! ## The laws by number -/

/-- A slot record in its ranges (R16, R18, R107), with the parts of `Slot.law` named. -/
structure Slot.Form (r : Slot) : Prop where
  defined : r.defined = true
  symbolPos : 1 ≤ r.symbol.length
  symbolLe : r.symbol.length ≤ 12
  chars : r.symbol.all printable = true
  scale : r.scale.isSome = true
  flashStyle : r.flashStyle < 16
  staleLe : r.stale ≤ 65535
  ageLe : r.age ≤ 65535
  conflation : r.conflation ≤ 65535
  placements : r.placements.length ≤ 4
  values : ∀ e ∈ r.values, ∀ v ∈ e.2, fieldHolds e.1 v
  quiet : r.state = .quiet → r.values = [] ∧ r.moves = [] ∧ r.age = 0 ∧ r.lastTake = none
  taken : r.state ≠ .quiet → r.lastTake.isSome = true
  fresh : r.state = .fresh → r.stale = 0 ∨ r.age < r.stale
  stale : r.state = .stale → 0 < r.stale ∧ r.stale ≤ r.age

theorem Slot.law_iff {r : Slot} : r.law ↔ r.Form :=
  ⟨fun ⟨h1, h2, h3, h4, h5, h6, h7, h8, h9, h10, h11, h12, h13, h14, h15⟩ =>
      ⟨h1, h2, h3, h4, h5, h6, h7, h8, h9, h10, h11, h12, h13, h14, h15⟩,
    fun h => ⟨h.defined, h.symbolPos, h.symbolLe, h.chars, h.scale, h.flashStyle, h.staleLe, h.ageLe, h.conflation,
      h.placements, h.values, h.quiet, h.taken, h.fresh, h.stale⟩⟩

/-- The laws of the slots (R16, R20), read by number. -/
structure SlotForm (s : State) : Prop where
  wf : Table.wf .empty s.itb.slots = true
  listed : ∀ n, s.slot n ≠ .empty → n < 256 ∧ (s.slot n).Form
  symbols : ∀ m n, m ≠ n → s.slot m ≠ .empty → s.slot n ≠ .empty → (s.slot m).symbol ≠ (s.slot n).symbol

theorem slotLaw_iff {s : State} : s.slotLaw ↔ SlotForm s := by
  have hiff : ∀ hwf : Table.wf Slot.empty s.itb.slots = true,
      ((∀ e ∈ s.itb.slots, e.1 < 256 ∧ e.2.law) ↔ ∀ n, s.slot n ≠ .empty → n < 256 ∧ (s.slot n).Form) := fun hwf => by
    simp only [Slot.law_iff]
    exact Table.forall_mem_iff hwf fun k r => k < 256 ∧ r.Form
  have hsym : ∀ hwf : Table.wf Slot.empty s.itb.slots = true, _ := fun hwf =>
    Table.pairwise_iff hwf (R := fun a b => a.symbol ≠ b.symbol) fun _ _ => Ne.symm
  constructor
  · rintro ⟨hwf, hlaw, hd⟩
    exact ⟨hwf, (hiff hwf).mp hlaw, (hsym hwf).mp hd⟩
  · intro h
    exact ⟨h.wf, (hiff h.wf).mpr h.listed, (hsym h.wf).mpr h.symbols⟩

/-- The laws of the Update Queue (R37 to R39, R53, R54), read by number; `known` says which slots are defined. -/
structure PoolForm (u : Upq) (known : Nat → Prop) : Prop where
  wf : Table.wf none u.pool = true
  size : u.pool.length ≤ 512
  entry : ∀ k v, Table.get none u.pool k = some v → k < 2048 ∧ known (k / 8) ∧ fieldHolds (k % 8) v
  nodup : u.dirty.Nodup
  listed : ∀ n, n ∈ u.dirty ↔ ∃ k, k / 8 = n ∧ Table.get none u.pool k ≠ none
  clean : u.clean ≤ 64
  mark : u.mark = true → u.overload = true ∧ u.clean = 0
  overload : u.overload = true → u.clean < 64

theorem queueLaw_iff {s : State} : s.queueLaw ↔ PoolForm s.upq fun n => (s.slot n).defined = true := by
  constructor
  · rintro ⟨hwf, hsize, hentry, hnodup, hback, hlist, hclean, hmark, hover⟩
    refine ⟨hwf, hsize, fun k v hv => ?_, hnodup, fun n => ⟨fun hn => ?_, ?_⟩, hclean, hmark, hover⟩
    · have hmem := Table.mem_of_get_ne none s.upq.pool k (by simp [hv])
      rw [hv] at hmem
      obtain ⟨h1, h2, h3⟩ := hentry _ hmem
      exact ⟨h1, h2, h3 v rfl⟩
    · obtain ⟨e, he, hen⟩ := hback n hn
      obtain ⟨hget, hne⟩ := (Table.mem_iff hwf e.1 e.2).mp he
      exact ⟨e.1, hen, by rwa [hget]⟩
    · rintro ⟨k, rfl, hk⟩
      exact hlist _ (Table.mem_of_get_ne none s.upq.pool k hk)
  · intro h
    refine ⟨h.wf, h.size, fun e he => ?_, h.nodup, fun n hn => ?_, fun e he => ?_, h.clean, h.mark, h.overload⟩
    · obtain ⟨hget, hne⟩ := (Table.mem_iff h.wf e.1 e.2).mp he
      obtain ⟨v, hv⟩ := Option.ne_none_iff_exists'.mp hne
      obtain ⟨h1, h2, h3⟩ := h.entry e.1 v (hget.trans hv)
      refine ⟨h1, h2, fun w hw => ?_⟩
      obtain rfl : v = w := Option.some.inj (hv.symm.trans hw)
      exact h3
    · obtain ⟨k, hk, hne⟩ := (h.listed n).mp hn
      exact ⟨_, Table.mem_of_get_ne none s.upq.pool k hne, hk⟩
    · obtain ⟨hget, hne⟩ := (Table.mem_iff h.wf e.1 e.2).mp he
      exact (h.listed _).mpr ⟨e.1, rfl, by rwa [hget]⟩

/-- The laws of the slots, of the Update Queue and of the commit together. -/
structure QueueForm (s : State) : Prop where
  slots : SlotForm s
  pool : PoolForm s.upq fun n => (s.slot n).defined = true
  commit : s.commitLaw

theorem queueForm_iff {s : State} : s.slotLaw ∧ s.queueLaw ∧ s.commitLaw ↔ QueueForm s := by
  rw [slotLaw_iff, queueLaw_iff]
  exact ⟨fun ⟨h1, h2, h3⟩ => ⟨h1, h2, h3⟩, fun h => ⟨h.slots, h.pool, h.commit⟩⟩

theorem Slot.ne_empty_of_defined {r : Slot} (hr : r.defined = true) : r ≠ .empty := fun he => by
  rw [he] at hr
  exact nomatch hr

theorem SlotForm.of_defined {s : State} (h : SlotForm s) {n : Nat} (hn : (s.slot n).defined = true) :
    n < 256 ∧ (s.slot n).Form := h.listed n (Slot.ne_empty_of_defined hn)

/-! ## Records that take another's place -/

/-- A record that may take the place of `r`: the FREE record for a FREE one, else one in its ranges with the same
symbol. -/
structure Slot.Follows (r r' : Slot) : Prop where
  free : r = .empty → r' = .empty
  form : r.Form → r'.Form
  symbol : r'.symbol = r.symbol

theorem Slot.Follows.refl (r : Slot) : r.Follows r := ⟨id, id, rfl⟩

/-- A defined record is followed by any in its ranges with the same symbol. -/
theorem Slot.Follows.of_defined {r r' : Slot} (hd : r.defined = true) (hform : r.Form → r'.Form)
    (hsym : r'.symbol = r.symbol) : r.Follows r' :=
  ⟨fun he => absurd he (Slot.ne_empty_of_defined hd), hform, hsym⟩

theorem Slot.SameButLimits.form {r r' : Slot} (h : r.SameButLimits r') (hr : r.Form) : r'.Form := by
  rw [h]
  exact { hr with }

theorem Slot.follows_disarmed (r : Slot) (side : Side) : r.Follows (r.setLimit side .disarmed) where
  free he := by subst he; cases side <;> rfl
  form := (Slot.setLimit_sameButLimits ..).form
  symbol := by rw [Slot.setLimit_eq]

theorem Slot.follows_limit {r : Slot} (hd : r.defined = true) (side : Side) (l : Limit) :
    r.Follows (r.setLimit side l) :=
  .of_defined hd (Slot.setLimit_sameButLimits ..).form (by rw [Slot.setLimit_eq])

theorem Slot.follows_conflation {r : Slot} {k : Nat} (hk : k ≤ 65535) (hfree : r = .empty → k = 0) :
    r.Follows { r with conflation := k } where
  free he := by rw [hfree he, he]; rfl
  form h := { h with conflation := hk }
  symbol := rfl

theorem Slot.follows_placements {r : Slot} (hd : r.defined = true) {ps : List Placement} (hps : ps.length ≤ 4) :
    r.Follows { r with placements := ps } :=
  .of_defined hd (fun h => { h with placements := hps }) rfl

/-- What ageing leaves of a record (R107): itself, or older by one, STALE where the age reaches the interval. -/
theorem Slot.aged_cases (r : Slot) (now : FrameNo) :
    r.aged now = r ∨
      ((r.state = .fresh ∨ r.state = .stale) ∧
        ((r.state = .fresh ∧ 0 < r.stale ∧ r.age < 65535 ∧ r.age + 1 = r.stale ∧
            r.aged now = { r with age := r.age + 1, state := .stale }) ∨
          (¬ (r.state = .fresh ∧ 0 < r.stale ∧ r.age < 65535 ∧ r.age + 1 = r.stale) ∧
            r.aged now = { r with age := min (r.age + 1) 65535 }))) := by
  unfold Slot.aged
  split
  · next hages =>
    simp only [Slot.ages, Bool.and_eq_true, Bool.or_eq_true, beq_iff_eq] at hages
    refine .inr ⟨hages.1, ?_⟩
    simp only [Slot.turnsStale, Slot.older, Config.countMax, Bool.and_eq_true, beq_iff_eq]
    split
    · next h =>
      obtain ⟨hlt, ⟨hfresh, hpos⟩, hage⟩ := h
      rw [Nat.min_eq_left (by omega)] at hage ⊢
      exact .inl ⟨hfresh, of_decide_eq_true hpos, hlt, hage, rfl⟩
    · next h =>
      refine .inr ⟨fun ⟨hfresh, hpos, hlt, hage⟩ => h ⟨hlt, ⟨hfresh, decide_eq_true hpos⟩, ?_⟩, rfl⟩
      omega
  · exact .inl rfl

theorem Slot.follows_aged (r : Slot) (now : FrameNo) : r.Follows (r.aged now) where
  free he := by subst he; rfl
  symbol := by rw [Slot.aged_eq]
  form h := by
    rcases r.aged_cases now with heq | ⟨hst, ⟨hfresh, hpos, hlt, hage, heq⟩ | ⟨hno, heq⟩⟩ <;> rw [heq]
    · exact h
    · exact { h with
        defined := rfl
        ageLe := hlt
        quiet := nofun
        taken := fun _ => h.taken (by simp [hfresh])
        fresh := nofun
        stale := fun _ => ⟨hpos, hage.ge⟩ }
    · exact { h with
        ageLe := Nat.min_le_right ..
        quiet := fun hq => hst.elim (fun hf => nomatch hf.symm.trans hq) fun hs => nomatch hs.symm.trans hq
        fresh := fun hf => by
          have h1 := h.fresh hf
          have h2 := h.staleLe
          by_cases h0 : r.stale = 0
          · exact .inl h0
          · refine .inr (show min (r.age + 1) 65535 < r.stale from ?_)
            have : r.age + 1 ≠ r.stale := fun he => hno ⟨hf, by omega, by omega, he⟩
            omega
        stale := fun hs => by
          have h1 := h.stale hs
          have h2 := h.staleLe
          exact ⟨h1.1, show r.stale ≤ min (r.age + 1) 65535 by omega⟩ }

/-- Storing the pending entries changes values and moves only. -/
theorem Slot.taken_eq (r : Slot) (es : List (Field × Int)) (frame : FrameNo) :
    r.taken es frame = { r with
      state := .fresh, age := 0, lastTake := some frame
      values := (r.taken es frame).values, moves := (r.taken es frame).moves } := by
  have hfold : es.foldl Slot.store r = { r with
      values := (es.foldl Slot.store r).values, moves := (es.foldl Slot.store r).moves } :=
    List.foldlRecOn (motive := fun x => x = { r with values := x.values, moves := x.moves }) es Slot.store rfl
      fun x hx e _ => by rw [Slot.store, hx]
  unfold Slot.taken
  rw [hfold]

/-- The values after a take are old ones and those of the entries taken. -/
theorem Slot.mem_taken_values {r : Slot} {es : List (Field × Int)} {frame : FrameNo} {e : Nat × Option Int}
    (he : e ∈ (r.taken es frame).values) : e ∈ r.values ∨ ∃ x ∈ es, e = (x.1.num, some x.2) := by
  refine List.foldlRecOn (motive := fun x : Slot => e ∈ x.values → e ∈ r.values ∨ ∃ x ∈ es, e = (x.1.num, some x.2))
    es Slot.store (fun h => .inl h) (fun x ih a ha h => ?_) he
  rcases Table.mem_set h with ⟨h, -⟩ | rfl
  · exact ih h
  · exact .inr ⟨a, ha, rfl⟩

/-- A take leaves a record in its ranges where the entries taken are in theirs. -/
theorem Slot.follows_taken {r : Slot} (hd : r.defined = true) {es : List (Field × Int)}
    (hes : ∀ e ∈ es, fieldHolds e.1.num e.2) (frame : FrameNo) : r.Follows (r.taken es frame) := by
  refine .of_defined hd (fun h => ?_) (by rw [Slot.taken_eq])
  have hvalues : ∀ e ∈ (r.taken es frame).values, ∀ v ∈ e.2, fieldHolds e.1 v := fun e he v hv => by
    rcases Slot.mem_taken_values he with he | ⟨x, hx, rfl⟩
    · exact h.values e he v hv
    · obtain rfl := Option.mem_some_iff.mp hv
      exact hes x hx
  rw [Slot.taken_eq]
  exact { h with
    defined := rfl
    ageLe := Nat.zero_le _
    values := hvalues
    quiet := nofun
    taken := fun _ => rfl
    fresh := fun _ => Nat.eq_zero_or_pos _
    stale := nofun }

/-! ## The slots -/

namespace SlotForm

variable {s t : State}

theorem congr (h : SlotForm s) (ht : t.itb.slots = s.itb.slots) : SlotForm t := by
  have hslot := State.slot_congr ht
  refine ⟨ht ▸ h.wf, fun n => ?_, fun m n => ?_⟩
  · rw [hslot]
    exact h.listed n
  · rw [hslot, hslot]
    exact h.symbols m n

/-- Records that follow those of their numbers, or are FREE. -/
theorem setSlots (h : SlotForm s) {u : Table Slot} (hu : Table.wf .empty u = true)
    (hf : ∀ n, Table.get .empty u n = .empty ∨ (s.slot n).Follows (Table.get .empty u n)) : SlotForm (s.setSlots u) := by
  have hold : ∀ n, Table.get .empty u n ≠ .empty → s.slot n ≠ .empty ∧ (s.slot n).Follows (Table.get .empty u n) :=
    fun n hn => by
      have hfn := (hf n).resolve_left hn
      exact ⟨fun he => hn (hfn.free he), hfn⟩
  refine ⟨hu, fun n hn => ?_, fun m n hmn hm hn => ?_⟩
  · obtain ⟨hne, hfn⟩ := hold n hn
    exact (h.listed n hne).imp_right hfn.form
  · obtain ⟨hm', hfm⟩ := hold m hm
    obtain ⟨hn', hfn⟩ := hold n hn
    change (Table.get .empty u m).symbol ≠ (Table.get .empty u n).symbol
    rw [hfm.symbol, hfn.symbol]
    exact h.symbols m n hmn hm' hn'

theorem setSlot (h : SlotForm s) {n : Nat} {r : Slot} (hf : r = .empty ∨ (s.slot n).Follows r) :
    SlotForm (s.setSlot n r) :=
  h.setSlots (Table.wf_set h.wf n r) fun m => by
    rw [Table.get_set]
    split
    · next hm => exact hm ▸ hf
    · exact .inr (.refl _)

/-- A record in its ranges whose symbol no defined slot holds (R20, R21). -/
theorem define (h : SlotForm s) {n : Nat} {r : Slot} (hn : n < 256) (hr : r.Form)
    (hnew : s.symbolTaken r.symbol = false) : SlotForm (s.setSlot n r) := by
  have hother : ∀ m, s.slot m ≠ .empty → (s.slot m).symbol ≠ r.symbol := fun m hm heq => by
    have hmem := Table.mem_of_get_ne _ _ m hm
    refine List.any_eq_false.mp hnew _ hmem ?_
    rw [Bool.and_eq_true]
    exact ⟨(h.listed m hm).2.defined, beq_iff_eq.mpr heq⟩
  refine ⟨Table.wf_set h.wf n r, fun m hm => ?_, fun i j hij hi hj => ?_⟩
  · rw [State.slot_setSlot] at hm ⊢
    split at hm
    · next hmn => exact ⟨hmn ▸ hn, by rw [if_pos hmn]; exact hr⟩
    · next hmn => exact (if_neg (c := m = n) hmn) ▸ h.listed m hm
  · rw [State.slot_setSlot] at hi hj
    rw [State.slot_setSlot, State.slot_setSlot]
    split at hi <;> split at hj
    · omega
    · next h1 h2 => rw [if_pos h1, if_neg h2]; exact (hother j hj).symm
    · next h1 h2 => rw [if_neg h1, if_pos h2]; exact hother i hi
    · next h1 h2 => rw [if_neg h1, if_neg h2]; exact h.symbols i j hij hi hj

theorem checkLimit (h : SlotForm s) {n : Nat} (hd : (s.slot n).defined = true) (v : Int) (side : Side) :
    SlotForm (s.checkLimit n v side) := by
  rcases s.checkLimit_slots n v side with heq | ⟨level, heq⟩
  · exact h.congr heq
  · exact (h.setSlot (.inr (Slot.follows_limit hd side (.fired level)))).congr heq

theorem alertCheckOf (h : SlotForm s) {n : Nat} (hd : (s.slot n).defined = true) (es : List (Field × Int)) :
    SlotForm (s.alertCheckOf n es) := by
  unfold State.alertCheckOf
  split
  · exact (h.checkLimit hd _ _).checkLimit (State.checkLimit_defined hd _ _) _ _
  · exact h

theorem acknowledge (h : SlotForm s) (n : Nat) (side : Side) : SlotForm (s.acknowledge n side) :=
  (h.setSlot (.inr (Slot.follows_disarmed (s.slot n) side))).congr (State.acknowledge_slots s n side)

end SlotForm

/-! ## The Update Queue -/

theorem poolKey_div {n f : Nat} (hf : f < 8) : poolKey n f / 8 = n := by
  unfold poolKey
  omega

theorem poolKey_mod {n f : Nat} (hf : f < 8) : poolKey n f % 8 = f := by
  unfold poolKey
  omega

theorem Field.num_lt (f : Field) : f.num < 8 := by cases f <;> decide

/-- The pool after the pairs of a POST, read by number (R44). -/
theorem get_applyPairs (n : Nat) (pool : Table (Option Int)) (ps : List PairOps) (k : Nat) :
    Table.get none (applyPairs n pool ps) k = Table.get none pool k ∨
      ∃ p ∈ ps, k = poolKey n p.field.toNat ∧ Table.get none (applyPairs n pool ps) k = some p.value.toInt := by
  refine List.foldlRecOn (motive := fun t : Table (Option Int) => Table.get none t k = Table.get none pool k ∨
    ∃ p ∈ ps, k = poolKey n p.field.toNat ∧ Table.get none t k = some p.value.toInt) ps _ (.inl rfl) fun t ih p hp => ?_
  rw [Table.get_set]
  split
  · next hk => exact .inr ⟨p, hp, hk, rfl⟩
  · exact ih

/-- Applying pairs takes no entry away. -/
theorem get_applyPairs_mono {n : Nat} {pool : Table (Option Int)} (ps : List PairOps) {k : Nat}
    (h : Table.get none pool k ≠ none) : Table.get none (applyPairs n pool ps) k ≠ none := by
  rcases get_applyPairs n pool ps k with heq | ⟨p, -, -, heq⟩ <;> rw [heq]
  · exact h
  · exact Option.some_ne_none _

/-- Each pair has its entry after a POST. -/
theorem get_applyPairs_of_mem {n : Nat} (pool : Table (Option Int)) {ps : List PairOps} {p : PairOps} (hp : p ∈ ps) :
    Table.get none (applyPairs n pool ps) (poolKey n p.field.toNat) ≠ none := by
  induction ps generalizing pool with
  | nil => exact nomatch hp
  | cons q ps ih =>
    rcases List.mem_cons.mp hp with rfl | hp
    · exact get_applyPairs_mono ps (by simp)
    · exact ih _ hp

/-- The pool grows by the pairs that had no entry (R42). -/
theorem length_applyPairs {n : Nat} {pool : Table (Option Int)} (hwf : Table.wf none pool = true) {ps : List PairOps}
    (hdup : duplicateField ps = false) :
    (applyPairs n pool ps).length =
      pool.length + ps.countP fun p => (Table.get none pool (poolKey n p.field.toNat)).isNone := by
  induction ps generalizing pool with
  | nil => rfl
  | cons p ps ih =>
    rw [duplicateField, Bool.or_eq_false_iff, List.any_eq_false] at hdup
    obtain ⟨hne, hdup⟩ := hdup
    change (applyPairs n (Table.set none pool (poolKey n p.field.toNat) (some p.value.toInt)) ps).length = _
    rw [ih (Table.wf_set hwf _ _) hdup, Table.length_set hwf _ (Option.some_ne_none _), List.countP_cons]
    have hrest : (ps.countP fun q => (Table.get none (Table.set none pool (poolKey n p.field.toNat)
          (some p.value.toInt)) (poolKey n q.field.toNat)).isNone) =
        ps.countP fun q => (Table.get none pool (poolKey n q.field.toNat)).isNone :=
      List.countP_congr fun q hq => by
        rw [Table.get_set, if_neg]
        intro hkey
        exact hne q hq (by simpa [poolKey, BitVec.toNat_inj] using hkey)
    rw [hrest]
    simp only [Option.isNone_iff_eq_none]
    omega

namespace PoolForm

variable {u : Upq} {known known' : Nat → Prop}

theorem mono (h : PoolForm u known) (hk : ∀ n, known n → known' n) : PoolForm u known' :=
  { h with entry := fun k v hv => (h.entry k v hv).imp_right fun hr => hr.imp_left (hk _) }

/-- The entries of a slot removed with the slot's place on the list (R24, R49). -/
theorem removed (h : PoolForm u known) {n : Nat} {dirty : List Nat} (hnodup : dirty.Nodup)
    (hdirty : ∀ m, m ∈ dirty ↔ m ∈ u.dirty ∧ m ≠ n) (hk : ∀ m, m ≠ n → known m → known' m) :
    PoolForm { u with pool := Table.clearRun u.pool (poolKey n 0) 8, dirty := dirty } known' := by
  have hget : ∀ k, Table.get none (Table.clearRun u.pool (poolKey n 0) 8) k =
      if k / 8 = n then none else Table.get none u.pool k := fun k => by
    rw [Table.get_clearRun]
    congr 1
    unfold poolKey
    rw [eq_iff_iff]
    omega
  refine ⟨Table.wf_clearRun h.wf _ _, (List.length_filter_le ..).trans h.size, fun k v hv => ?_, hnodup, fun m => ?_,
    h.clean, h.mark, h.overload⟩
  · rw [hget] at hv
    split at hv
    · exact nomatch hv
    · next hkn =>
      obtain ⟨h1, h2, h3⟩ := h.entry k v hv
      exact ⟨h1, hk _ hkn h2, h3⟩
  · rw [hdirty, h.listed]
    constructor
    · rintro ⟨⟨k, hkm, hne⟩, hmn⟩
      exact ⟨k, hkm, by rwa [hget, if_neg (by omega)]⟩
    · rintro ⟨k, hkm, hne⟩
      rw [hget] at hne
      split at hne
      · exact absurd rfl hne
      · exact ⟨⟨k, hkm, hne⟩, by omega⟩

/-- The clean frame count of a frame start (R53, R54). -/
theorem frameStart (h : PoolForm u known) : PoolForm u.frameStart known := by
  have hclean := h.clean
  unfold Upq.frameStart
  split
  · exact { h with clean := Nat.zero_le _, mark := nofun, overload := fun _ => Nat.zero_lt_succ _ }
  · next hmark =>
    refine { h with clean := Nat.min_le_right .., mark := fun hm => absurd hm hmark, overload := fun ho => ?_ }
    change min (u.clean + 1) 64 < 64
    by_contra hmax
    have hfull : min (u.clean + 1) Config.cleanFrames = Config.cleanFrames := by
      simp only [Config.cleanFrames]
      omega
    simp only [hfull, if_true] at ho
    exact nomatch ho

/-- A POST to a defined slot, with room for its new pairs (R42 to R45). -/
theorem post (h : PoolForm u known) {n : Nat} {ps : List PairOps} {dirty : List Nat} (hn : n < 256) (hkn : known n)
    (hpos : ps ≠ []) (hfield : ∀ p ∈ ps, p.field.toNat < 8) (hdup : duplicateField ps = false)
    (hrange : ∀ p ∈ ps, fieldHolds p.field.toNat p.value.toInt)
    (hfree : (ps.countP fun p => (Table.get none u.pool (poolKey n p.field.toNat)).isNone) ≤ u.free)
    (hdirty : dirty = if n ∈ u.dirty then u.dirty else u.dirty ++ [n]) :
    PoolForm { u with pool := applyPairs n u.pool ps, dirty := dirty } known := by
  have hin : ∀ m, m ∈ dirty ↔ m = n ∨ m ∈ u.dirty := fun m => by
    rw [hdirty]
    split
    · next hmem => exact ⟨.inr, fun hm => hm.elim (fun he => he ▸ hmem) id⟩
    · simp [or_comm]
  refine ⟨applyPairs_wf h.wf n ps, ?_, fun k v hv => ?_, ?_, fun m => ?_, h.clean, h.mark, h.overload⟩
  · rw [length_applyPairs h.wf hdup]
    have := h.size
    simp only [Upq.free, Config.pendingPool] at hfree
    omega
  · rcases get_applyPairs n u.pool ps k with heq | ⟨p, hp, rfl, heq⟩ <;> rw [heq] at hv
    · exact h.entry k v hv
    · obtain rfl := Option.some.inj hv
      have hf := hfield p hp
      rw [poolKey_div hf, poolKey_mod hf]
      exact ⟨by unfold poolKey; omega, hkn, hrange p hp⟩
  · rw [hdirty]
    split
    · exact h.nodup
    · next hmem => exact List.nodup_append.mpr ⟨h.nodup, List.nodup_singleton n, by
        intro a ha b hb hab
        rw [List.mem_singleton] at hb
        exact hmem (hb ▸ hab ▸ ha)⟩
  · rw [hin, h.listed]
    constructor
    · rintro (rfl | ⟨k, hk, hne⟩)
      · obtain ⟨p, hp⟩ := List.exists_mem_of_ne_nil ps hpos
        exact ⟨_, poolKey_div (hfield p hp), get_applyPairs_of_mem u.pool hp⟩
      · exact ⟨k, hk, get_applyPairs_mono ps hne⟩
    · rintro ⟨k, rfl, hne⟩
      rcases get_applyPairs n u.pool ps k with heq | ⟨p, hp, rfl, -⟩
      · exact .inr ⟨k, rfl, heq ▸ hne⟩
      · exact .inl (poolKey_div (hfield p hp))

end PoolForm

/-- The pending entries of a slot are none where the slot has no entry in the pool. -/
theorem PoolForm.pendingOf_eq_nil_iff {s : State} {known : Nat → Prop} (h : PoolForm s.upq known) (n : Nat) :
    s.pendingOf n = [] ↔ n ∉ s.upq.dirty := by
  rw [h.listed, List.eq_nil_iff_forall_not_mem]
  constructor
  · rintro hno ⟨k, rfl, hne⟩
    obtain ⟨v, hv⟩ := Option.ne_none_iff_exists'.mp hne
    obtain ⟨f, hf⟩ : ∃ f : Field, f.num = k % 8 := by
      have hall : ∀ i < 8, ∃ f ∈ allFields, f.num = i := by decide
      obtain ⟨f, -, hf⟩ := hall (k % 8) (Nat.mod_lt _ (by omega))
      exact ⟨f, hf⟩
    refine hno (f, v) (State.mem_pendingOf.mpr ?_)
    unfold State.pendingValue poolKey
    rw [hf, Nat.div_add_mod]
    exact hv
  · intro hno e he
    refine hno ⟨_, poolKey_div e.1.num_lt, ?_⟩
    rw [State.mem_pendingOf] at he
    exact fun hnone => nomatch he.symm.trans hnone

/-! ## The commit -/

theorem commitLaw_congr {s t : State} (h : s.commitLaw) (hc : t.cme = s.cme) (hd : t.dtg = s.dtg) : t.commitLaw := by
  unfold State.commitLaw
  rw [hc, hd]
  exact h

/-- At the boundary of a frame no commit runs (R66). -/
theorem not_committing_of_atBoundary {s : State} (h : s.commitLaw) (hb : s.dtg.atBoundary = true) :
    s.cme.state ≠ .committing := by
  intro hc
  obtain ⟨-, -, -, hrun⟩ := h
  obtain ⟨-, hphase, hrestart, -⟩ := hrun hc
  simp [Dtg.atBoundary, hphase, hrestart] at hb

/-- A frame start begins a commit with the whole budget, or a held one leaves it idle (R57 to R59). -/
theorem commitLaw_frameStart {s : State} (h : s.commitLaw) (hb : s.dtg.atBoundary = true) : s.frameStart.commitLaw := by
  have hidle := not_committing_of_atBoundary h hb
  obtain ⟨hbudget, -, -, -⟩ := h
  have hst := s.frameStart_started
  have hpower : s.dtg.power = .awake := by
    simp only [Dtg.atBoundary, Bool.and_eq_true, beq_iff_eq] at hb
    exact hb.1
  unfold State.commitLaw
  rw [hst.cme, hst.dtg]
  cases s.held
  · exact ⟨le_rfl, Nat.zero_le _, le_rfl, fun _ => ⟨hpower, rfl, rfl, rfl, rfl, rfl⟩⟩
  · exact ⟨hbudget, Nat.zero_le _, le_rfl, fun hc => absurd hc hidle⟩

/-- A take of a slot that has entries, and whose entries fit the budget, moves them from the budget to the count
(R61). -/
theorem commitLaw_removePending {s : State} (h : s.commitLaw) (hc : s.cme.state = .committing) (n : Nat) {count : Nat}
    (hpos : 1 ≤ count) (hfit : count ≤ s.cme.budget) : (s.removePending n count).commitLaw := by
  obtain ⟨hbudget, htaken, hslots, hrun⟩ := h
  obtain ⟨hpower, hphase, hrestart, hhold, hframe, hsum⟩ := hrun hc
  change s.cme.budget - count ≤ 192 ∧ s.cme.entriesTaken + count ≤ 192 ∧
    s.cme.slotsTaken + 1 ≤ s.cme.entriesTaken + count ∧ (s.cme.state = .committing → s.dtg.power = .awake ∧
      s.dtg.phase = .blank ∧ s.dtg.restart = false ∧ s.cme.frameHold = false ∧ s.cme.frame = s.dtg.counter ∧
      s.cme.budget - count + (s.cme.entriesTaken + count) = 192)
  exact ⟨by omega, by omega, by omega, fun _ => ⟨hpower, hphase, hrestart, hhold, hframe, by omega⟩⟩

/-! ## The laws together -/

namespace QueueForm

variable {s t : State}

/-- The laws read the slots, the Update Queue, the Commit Engine and the generator only. -/
theorem congr (h : QueueForm s) (hs : t.itb.slots = s.itb.slots) (hu : t.upq = s.upq) (hc : t.cme = s.cme)
    (hd : t.dtg = s.dtg) : QueueForm t :=
  ⟨h.slots.congr hs, hu ▸ h.pool.mono fun n hn => State.slot_congr hs n ▸ hn, commitLaw_congr h.commit hc hd⟩

theorem cells (h : QueueForm s) (hc : SameButCells s t) : QueueForm t :=
  h.congr (by rw [hc]; rfl) (by rw [hc]; rfl) (by rw [hc]; rfl) (by rw [hc]; rfl)

theorem link : LinkFree QueueForm := fun s t h hs => hs.congr (by rw [h]) (by rw [h]) (by rw [h]) (by rw [h])

/-- Records that follow those of their numbers. -/
theorem setSlots (h : QueueForm s) {u : Table Slot} (hu : Table.wf .empty u = true)
    (hf : ∀ n, (s.slot n).Follows (Table.get .empty u n)) : QueueForm (s.setSlots u) :=
  ⟨h.slots.setSlots hu fun n => .inr (hf n),
    h.pool.mono fun n hn => ((hf n).form (h.slots.of_defined hn).2).defined, h.commit⟩

theorem setSlot (h : QueueForm s) {n : Nat} {r : Slot} (hf : (s.slot n).Follows r) : QueueForm (s.setSlot n r) :=
  h.setSlots (Table.wf_set h.slots.wf n r) fun m => by
    rw [Table.get_set]
    split
    · next hm => exact hm ▸ hf
    · exact .refl _

theorem acknowledge (h : QueueForm s) (n : Nat) (side : Side) : QueueForm (s.acknowledge n side) :=
  (h.setSlot (Slot.follows_disarmed (s.slot n) side)).congr (State.acknowledge_slots s n side)
    (by rw [State.acknowledge_frame s n side]; rfl) (by rw [State.acknowledge_frame s n side]; rfl)
    (by rw [State.acknowledge_frame s n side]; rfl)

theorem acknowledgeHead (h : QueueForm s) : QueueForm s.acknowledgeHead := by
  unfold State.acknowledgeHead
  split
  · exact h
  · exact h.acknowledge _ _

theorem debouncedEdge (h : QueueForm s) (l : Nat) : QueueForm (s.debouncedEdge l) := by
  have hline : QueueForm (s.setLine l (s.line l).edge) := h.congr rfl rfl rfl rfl
  rcases s.debouncedEdge_cases l with hl | hl
  · exact link _ _ hl hline
  · exact link _ _ hl hline.acknowledgeHead

theorem frameStart (h : QueueForm s) (hb : s.dtg.atBoundary = true) : QueueForm s.frameStart := by
  have hst := s.frameStart_started
  have hslots : SlotForm s.frameStart ∧ ∀ n, (s.slot n).defined = true → (s.frameStart.slot n).defined = true := by
    cases hheld : s.held
    · let now := s.dtg.counter + 1
      have hget : ∀ n, Table.get .empty (Table.adjust .empty (fun _ r => r.aged now) s.itb.slots) n =
          (s.slot n).aged now := Table.get_adjust h.slots.wf (fun _ r => r.aged now) fun _ => Slot.aged_empty now
      have haged : QueueForm (s.agedSlots now) :=
        h.setSlots (Table.wf_adjust h.slots.wf fun _ r => r.aged now) fun n => by
          rw [hget]
          exact Slot.follows_aged _ now
      have heq : s.frameStart.itb.slots = (s.agedSlots now).itb.slots := by
        rw [hst.slots, hheld]
        rfl
      refine ⟨haged.slots.congr heq, fun n hn => ?_⟩
      rw [State.slot_congr heq]
      have hform := (Slot.follows_aged (s.slot n) now).form (h.slots.of_defined hn).2
      rw [← hget] at hform
      exact hform.defined
    · have heq : s.frameStart.itb.slots = s.itb.slots := by rw [hst.slots, hheld]; rfl
      exact ⟨h.slots.congr heq, fun n hn => by rwa [State.slot_congr heq]⟩
  exact ⟨hslots.1, hst.upq ▸ h.pool.frameStart.mono hslots.2, commitLaw_frameStart h.commit hb⟩

theorem sleepEntry (h : QueueForm s) (hb : s.dtg.atBoundary = true) : QueueForm s.sleepEntry := by
  have hidle := not_committing_of_atBoundary h.commit hb
  obtain ⟨hbudget, htaken, hslots, -⟩ := h.commit
  exact { h with commit := ⟨hbudget, htaken, hslots, fun hc => absurd hc hidle⟩, slots := h.slots.congr rfl }

/-- The laws hold with no commit running, whatever the generator does. -/
theorem idle (h : QueueForm s) (d : Dtg) : QueueForm ((s.setDtg d).setCme { s.cme with state := .idle }) := by
  obtain ⟨hbudget, htaken, hslots, -⟩ := h.commit
  exact ⟨h.slots.congr rfl, h.pool, hbudget, htaken, hslots, nofun⟩

theorem endCommit (h : QueueForm s) : QueueForm s.endCommit :=
  link _ _ (State.frameNotice_frame ..).link (h.idle s.dtg)

theorem scanStart (h : QueueForm s) : QueueForm s.scanStart := by
  have hend := h.idle { s.dtg with phase := .scan }
  unfold State.scanStart
  simp only
  split
  · exact link _ _ (State.frameNotice_frame ..).link hend
  · next hidle => exact hend.congr rfl rfl (by rw [← hidle]; rfl) rfl

/-- The take of the head of the list, whose entries fit (R60 to R65). -/
theorem take (h : QueueForm s) (hc : s.cme.state = .committing) {n : Nat} {rest : List Nat}
    (hdirty : s.upq.dirty = n :: rest) (hfit : (s.pendingOf n).length ≤ s.cme.budget) : QueueForm (s.take n) := by
  have hhead : n ∈ s.upq.dirty := hdirty ▸ List.mem_cons_self
  have hnodup : n ∉ rest ∧ rest.Nodup := List.nodup_cons.mp (hdirty ▸ h.pool.nodup)
  have hpos : 1 ≤ (s.pendingOf n).length :=
    List.length_pos_iff.mpr fun hnil => (h.pool.pendingOf_eq_nil_iff n).mp hnil hhead
  have hdef : (s.slot n).defined = true := by
    obtain ⟨k, hk, hne⟩ := (h.pool.listed n).mp hhead
    obtain ⟨v, hv⟩ := Option.ne_none_iff_exists'.mp hne
    obtain ⟨-, hkn, -⟩ := h.pool.entry k v hv
    exact hk ▸ hkn
  have hes : ∀ e ∈ s.pendingOf n, fieldHolds e.1.num e.2 := fun e he => by
    obtain ⟨-, -, hv⟩ := h.pool.entry _ _ (State.mem_pendingOf.mp he)
    rwa [poolKey_mod e.1.num_lt] at hv
  have hfollows := Slot.follows_taken hdef hes s.cme.frame
  have hstored : SlotForm (s.stored n) :=
    (h.slots.congr (t := s.removePending n _) rfl).setSlot (.inr hfollows)
  have hdef1 : ((s.stored n).slot n).defined = true := by
    unfold State.stored
    rw [State.slot_setSlot, if_pos rfl]
    rfl
  have hslots : SlotForm (s.take n) :=
    (hstored.alertCheckOf hdef1 _).congr (congrArg Itb.slots (s.take_slots n))
  have hframe := s.take_frame n
  refine ⟨hslots, ?_, ?_⟩
  · have hpool : PoolForm (s.stored n).upq fun m => m ≠ n ∧ (s.slot m).defined = true :=
      h.pool.removed (hdirty ▸ hnodup.2) (fun m => by
        rw [hdirty, List.tail_cons, List.mem_cons]
        exact ⟨fun hm => ⟨.inr hm, fun he => hnodup.1 (he ▸ hm)⟩, fun ⟨hm, hne⟩ => hm.resolve_left hne⟩)
        fun m hm hd => ⟨hm, hd⟩
    have hupq : (s.take n).upq = (s.stored n).upq := by rw [hframe]
    rw [hupq]
    refine hpool.mono fun m ⟨hmn, hd⟩ => ?_
    rw [State.slot_congr (congrArg Itb.slots (s.take_slots n)), ((s.stored n).alertCheckOf_slot n _ m).2 hmn]
    unfold State.stored
    rw [State.slot_setSlot, if_neg hmn]
    exact hd
  · exact commitLaw_congr (commitLaw_removePending h.commit hc n hpos hfit) (by rw [hframe]; rfl) (by rw [hframe]; rfl)

theorem commitStep (h : QueueForm s) (hc : s.cme.state = .committing) : QueueForm s.commitStep := by
  unfold State.commitStep
  split
  · exact h.endCommit
  · next n rest hdirty =>
    split
    · next hfit => exact h.take hc hdirty hfit
    · exact h.endCommit

theorem dropSlot (h : QueueForm s) (n : Nat) : QueueForm (s.dropSlot n) := by
  let s1 := s.setUpq { s.upq with
    pool := Table.clearRun s.upq.pool (poolKey n 0) 8
    dirty := s.upq.dirty.filter (· != n) }
  let s2 := (s1.flashesOf n).foldl State.endFlash s1
  let s3 := s2.setFau { s2.fau with alerts := s2.fau.alerts.filter fun a => a.slot != n }
  let s4 := (s3.slot n).placements.foldl State.blankPlacement s3
  have h2 : SameButFlash s1 s2 :=
    foldl_rel SameButFlash .refl (fun _ _ _ => .trans) (fun _ _ => State.endFlash_frame ..) _ _
  have h4 : SameButCells s3 s4 :=
    foldl_rel SameButCells .refl (fun _ _ _ => .trans) (fun _ _ => State.blankPlacement_frame ..) _ _
  have hs : s4.itb.slots = s.itb.slots := congrArg Itb.slots (h4.itb.trans h2.itb)
  have hslot : ∀ m, ((s4.setSlot n .empty).slot m) = if m = n then .empty else s.slot m := fun m => by
    rw [State.slot_setSlot, State.slot_congr hs]
  have hu : s4.upq = s1.upq := by rw [h4, State.setCells_upq]; change s2.upq = _; rw [h2]
  have hc : s4.cme = s.cme := by rw [h4, State.setCells_cme]; change s2.cme = _; rw [h2]; rfl
  have hd : s4.dtg = s.dtg := by rw [h4, State.setCells_dtg]; change s2.dtg = _; rw [h2]; rfl
  change QueueForm (s4.setSlot n .empty)
  refine ⟨(h.slots.congr hs).setSlot (.inl rfl), ?_, commitLaw_congr h.commit hc hd⟩
  change PoolForm s4.upq _
  rw [hu]
  refine h.pool.removed (h.pool.nodup.filter _) (fun m => by simp [List.mem_filter]) fun m hm hdef => ?_
  rw [hslot, if_neg hm]
  exact hdef

theorem pairs_fieldHold {ps : List PairOps} (hrange : ps.all pairInRange = true) :
    ∀ p ∈ ps, fieldHolds p.field.toNat p.value.toInt := fun p hp => by
  have h := List.all_eq_true.mp hrange p hp
  have hlo := p.value.le_toInt
  have hhi := p.value.toInt_lt
  refine ⟨⟨by simpa using hlo, by norm_num at hhi; omega⟩, ?_⟩
  unfold pairInRange at h
  split at h
  · next f hf => rwa [hf]
  · exact nomatch h

theorem postPairs (h : QueueForm s) {n : Nat} {ps : List PairOps} (hdef : (s.slot n).defined = true) (hpos : 1 ≤ ps.length)
    (hfield : ∀ p ∈ ps, p.field.toNat < 8) (hdup : duplicateField ps = false) (hrange : ps.all pairInRange = true)
    (hfree : s.newPairs n ps ≤ s.upq.free) : QueueForm (s.postPairs n ps) := by
  obtain ⟨hn, hform⟩ := h.slots.of_defined hdef
  let u : Upq := { s.upq with
    pool := applyPairs n s.upq.pool ps
    dirty := if (s.pendingOf n).isEmpty then s.upq.dirty ++ [n] else s.upq.dirty }
  have hdirty : u.dirty = if n ∈ s.upq.dirty then s.upq.dirty else s.upq.dirty ++ [n] := by
    change (if (s.pendingOf n).isEmpty then s.upq.dirty ++ [n] else s.upq.dirty) = _
    simp only [List.isEmpty_iff, h.pool.pendingOf_eq_nil_iff, ite_not]
  have hpool : PoolForm u fun m => (s.slot m).defined = true :=
    h.pool.post hn hdef (List.length_pos_iff.mp hpos) hfield hdup (pairs_fieldHold hrange) hfree hdirty
  have hq : QueueForm (s.setUpq u) := ⟨h.slots.congr rfl, hpool, h.commit⟩
  exact hq.setSlot (.of_defined hdef (fun hf => { hf with conflation := Nat.min_le_right .. }) rfl)

end QueueForm

/-- Every change keeps the laws of slots, pool, list and commit. -/
theorem Change.queueForm {i : Instr} {s t : State} (hc : Change i s t) (h : QueueForm s) : QueueForm t := by
  cases hc with
  | same => exact h
  | format f => exact { h with slots := h.slots.congr rfl }
  | mode a c p =>
    refine { h with slots := h.slots.congr rfl, commit := ?_ }
    obtain ⟨hbudget, htaken, hslots, hrun⟩ := h.commit
    refine ⟨hbudget, htaken, hslots, fun hcom => ?_⟩
    have hawake := (hrun hcom).1
    have hmodes : s.dtg.setModes a c p = { s.dtg with stagedArea := a, stagedColour := c, stagedPower := p } := by
      simp only [Dtg.setModes, hawake]
    change (s.dtg.setModes a c p).power = _ ∧ (s.dtg.setModes a c p).phase = _ ∧
      (s.dtg.setModes a c p).restart = _ ∧ _ ∧ s.cme.frame = (s.dtg.setModes a c p).counter ∧ _
    rw [hmodes]
    exact hrun hcom
  | define n symbol sc fs stale hn hsym hfs hstale _ hnew =>
    refine ⟨h.slots.define hn ?_ hnew, h.pool.mono fun m hm => ?_, h.commit⟩
    · exact
        { defined := rfl, symbolPos := hsym.1, symbolLe := hsym.2.1, chars := hsym.2.2, scale := rfl, flashStyle := hfs
          staleLe := hstale, ageLe := Nat.zero_le _, conflation := Nat.zero_le _, placements := Nat.zero_le _
          values := nofun, quiet := fun _ => ⟨rfl, rfl, rfl, rfl⟩, taken := fun hq => absurd rfl hq
          fresh := nofun, stale := nofun }
    · rw [State.slot_setSlot]
      split
      · rfl
      · exact hm
  | drop n => exact h.dropSlot n
  | place n p pg cs hdef _ _ _ _ hfour =>
    have hlist : QueueForm (s.setSlot n { s.slot n with placements := (s.slot n).placements ++ [p] }) :=
      h.setSlot (Slot.follows_placements hdef (by simp only [List.length_append, List.length_singleton]; omega))
    exact (hlist.congr (t := s.listPlacement n p) rfl rfl rfl rfl).cells (State.writePlacement_frame ..)
  | unplace n k p hdef hp =>
    have hframe : SameButCells s (s.blankPlacement p) := State.blankPlacement_frame ..
    have hslot := hframe.slot n
    have hle := (h.slots.of_defined hdef).2.placements
    refine ((h.cells hframe).setSlot (n := n) (Slot.follows_placements (by rw [hslot]; exact hdef) ?_)).congr
      (t := s.removePlacement n k p) rfl rfl rfl rfl
    change (((s.blankPlacement p).slot n).placements.eraseIdx k).length ≤ 4
    rw [hslot]
    exact (List.length_eraseIdx_le ..).trans hle
  | post n ps hdef hlen hfield hdup hrange hfree => exact h.postPairs hdef hlen.1 hfield hdup hrange hfree
  | pendingFull =>
    exact { h with
      slots := h.slots.congr rfl
      pool := { h.pool with
        clean := Nat.zero_le _, mark := fun _ => ⟨rfl, rfl⟩, overload := fun _ => Nat.zero_lt_succ _ } }
  | limit n side l hdef => exact h.setSlot (Slot.follows_limit hdef side l)
  | ack n side => exact h.acknowledge n side
  | qslot n => exact h.setSlot (Slot.follows_conflation (Nat.zero_le _) fun _ => rfl)
  | hold v => exact { h with slots := h.slots.congr rfl }
  | reset =>
    exact ⟨⟨rfl, fun n hn => absurd rfl hn, fun m n _ hm => absurd rfl hm⟩,
      ⟨rfl, Nat.zero_le _, nofun, List.nodup_nil, fun n => ⟨nofun, fun ⟨_, _, hne⟩ => absurd rfl hne⟩, Nat.zero_le _,
        nofun, nofun⟩,
      ⟨Nat.zero_le _, Nat.zero_le _, le_rfl, nofun⟩⟩
  | frameStart hb => exact h.frameStart hb
  | sleepEntry hb => exact h.sleepEntry hb
  | scanStart => exact h.scanStart
  | commitStep hcom => exact h.commitStep hcom
  | edge l => exact h.debouncedEdge l
  | fill => exact h.cells (Claims.State.fillRect_frame ..)
  | layout => exact h.congr rfl rfl rfl rfl
  | screen => exact h.congr rfl rfl rfl rfl
  | palette => exact h.congr rfl rfl rfl rfl
  | style => exact h.congr rfl rfl rfl rfl
  | fontarea => exact h.congr rfl rfl rfl rfl
  | glyphs => exact h.congr rfl rfl rfl rfl
  | page => exact h.congr rfl rfl rfl rfl
  | unpage => exact h.congr rfl rfl rfl rfl
  | text => exact h.congr rfl rfl rfl rfl
  | pane => exact h.congr rfl rfl rfl rfl
  | scroll => exact h.congr rfl rfl rfl rfl
  | clip => exact h.congr rfl rfl rfl rfl
  | crawl => exact h.congr rfl rfl rfl rfl
  | crawlctl => exact h.congr rfl rfl rfl rfl
  | lines => exact h.congr rfl rfl rfl rfl
  | save => exact h.congr rfl rfl rfl rfl
  | saved => exact h.congr rfl rfl rfl rfl
  | pinChange => exact h.congr rfl rfl rfl rfl

/-- Settles O56: read by number, the laws are kept by every change of a waiting command. -/
theorem stepKeepsQueueLaws : Obligations.StepKeepsQueueLaws := by
  intro s t hslot hqueue hcommit h
  exact queueForm_iff.mpr (step_leads QueueForm.link QueueForm.link (fun _ _ _ _ h0 hc => hc.queueForm h0) id
    (queueForm_iff.mp ⟨hslot, hqueue, hcommit⟩) h)

end Sys2Proof.Machine
end

-- ==== Proofs: DEFINE and LAYOUT ====
section
/-!
O16, O18. DEFINE and LAYOUT: what their operands give, what each action answers, then the statements.
-/

namespace Sys2Proof.Claims

open Sys2Proof.Machine

/-! ## DEFINE -/

/-- A slot is defined where its state is not FREE (R17). -/
theorem defined_eq (r : Slot) : r.defined = decide (r.state ≠ .free) := by
  unfold Slot.defined
  cases r.state <;> rfl

theorem byte_eq_iff (b : Byte) (n : Nat) (hn : n < 256) : b = BitVec.ofNat 8 n ↔ b.toNat = n := by
  rw [← BitVec.toNat_inj, BitVec.toNat_ofNat, Nat.mod_eq_of_lt hn]

/-- The scales that DEFINE's kind and parameter can give (R21). -/
abbrev scaleOk (o : DefineOps) : Prop :=
  (o.scaleKind = 0 ∧ o.scaleParam.toNat ≤ 6) ∨
    (o.scaleKind = 1 ∧ 1 ≤ o.scaleParam.toNat ∧ o.scaleParam.toNat ≤ 8) ∨ o.scaleKind = 2

theorem scale?_of_ok {o : DefineOps} (h : scaleOk o) : Scale.ofBytes? o.scaleKind o.scaleParam = some (scaleOf o) := by
  unfold Scale.ofBytes? scaleOf
  rcases h with ⟨hk, hp⟩ | ⟨hk, hp⟩ | hk <;> rw [hk]
  · exact if_pos hp
  · exact if_pos hp
  · rfl

theorem scaleOk_of_scale? {o : DefineOps} {sc : Scale} (h : Scale.ofBytes? o.scaleKind o.scaleParam = some sc) :
    scaleOk o := by
  unfold Scale.ofBytes? at h
  split at h
  · next hk =>
    split at h
    · next hp => exact .inl ⟨(byte_eq_iff _ 0 (by omega)).mpr hk, hp⟩
    · exact nomatch h
  · next hk =>
    split at h
    · next hp => exact .inr (.inl ⟨(byte_eq_iff _ 1 (by omega)).mpr hk, hp⟩)
    · exact nomatch h
  · next hk => exact .inr (.inr ((byte_eq_iff _ 2 (by omega)).mpr hk))
  · exact nomatch h

/-- DEFINE's operands are in the ranges of R21. -/
abbrev defineOk (o : DefineOps) : Prop :=
  1 ≤ o.symbol.length ∧ o.symbol.length ≤ 12 ∧ (∀ b ∈ o.symbol, 0x20 ≤ b.toNat ∧ b.toNat ≤ 0x7E) ∧ scaleOk o ∧
    o.flashStyle.toNat ≤ 15

theorem all_printable_iff {l : List Byte} :
    l.all printable = true ↔ ∀ b ∈ l, 0x20 ≤ b.toNat ∧ b.toNat ≤ 0x7E := by
  simp [List.all_eq_true, printable]

theorem defineAction_badValue {o : DefineOps} (s : State) (h : ¬ defineOk o) :
    defineAction o s = refuse .badValue s := by
  unfold defineAction
  split
  · next sc fs hsc hfs =>
    obtain ⟨hle, -⟩ := upTo?_eq_some.mp hfs
    rw [if_pos]
    by_contra hsym
    simp only [not_or, Bool.not_eq_true', Bool.not_eq_false, all_printable_iff] at hsym
    exact h ⟨by omega, by omega, hsym.2.2, scaleOk_of_scale? hsc, hle⟩
  · rfl

/-- The slot record that DEFINE makes (R22). -/
def definedSlot (o : DefineOps) : Slot :=
  { state := .quiet, symbol := o.symbol, scale := some (scaleOf o), flashStyle := o.flashStyle.toNat
    stale := o.stale.toNat, age := 0, lastTake := none, values := [], moves := [], placements := []
    high := .disarmed, low := .disarmed, conflation := 0 }

theorem defineAction_eq {o : DefineOps} (s : State) (h : defineOk o) :
    defineAction o s =
      if (s.slot o.slot.toNat).defined then refuse .inUse s
      else if s.symbolTaken o.symbol then refuse .duplicate s
      else accept .empty (s.setSlot o.slot.toNat (definedSlot o)) := by
  obtain ⟨h1, h2, hchars, hscale, hfs⟩ := h
  unfold defineAction
  rw [scale?_of_ok hscale, upTo?_of_le hfs]
  simp only
  rw [if_neg]
  · rfl
  · rw [Bool.not_eq_true', ← Bool.not_eq_true, all_printable_iff]
    exact fun hbad => hbad.elim (by omega) fun hbad => hbad.elim (by omega) fun hbad => hbad hchars

/-- No defined slot holds the symbol, said of the slots' states. -/
theorem symbolTaken_eq_false {s : State} {symbol : List Byte} :
    s.symbolTaken symbol = false ↔ ∀ e ∈ s.itb.slots, e.2.state ≠ .free → e.2.symbol ≠ symbol := by
  simp [State.symbolTaken, defined_eq]

theorem define_request (s : State) (tag : Byte) (o : DefineOps) :
    Request (.define tag (.ops o)) s (defineChecks o s) (fun f t =>
      Answered s t f .empty ∧ t = { s with fli := t.fli, itb := { s.itb with slots := t.itb.slots } } ∧
      ∀ n, t.slot n = if n = o.slot.toNat then definedSlot o else s.slot n) := by
  refine request_of_answers (act := defineAction o) rfl rfl ?_
  unfold defineChecks
  refine .check (fun hbad => defineAction_badValue _ (of_decide_eq_false hbad)) fun hval => ?_
  have heq := defineAction_eq s.dropHead (of_decide_eq_true hval)
  change defineAction o s.dropHead = if (s.slot o.slot.toNat).defined then _ else
    if s.symbolTaken o.symbol then _ else _ at heq
  refine .check (fun hused => heq.trans (if_pos ?_)) fun hfree => .check (fun htaken => ?_) fun hnew => ?_
  · rw [defined_eq]
    exact decide_eq_true (of_decide_eq_false hused)
  all_goals rw [if_neg (by simpa [defined_eq] using hfree)] at heq
  · refine heq.trans (if_pos ?_)
    rw [← Bool.not_eq_false, symbolTaken_eq_false]
    exact of_decide_eq_false htaken
  · refine .accepted _ _ (heq.trans (if_neg ?_)) ⟨answered_accept rfl _ _, rfl, fun n => Table.get_set ..⟩
    rw [Bool.not_eq_true, symbolTaken_eq_false]
    exact of_decide_eq_true hnew

/-- Settles O16: DEFINE from its action, check by check. -/
theorem defineSetsSlot : Obligations.DefineSetsSlot := fun s tag o =>
  ⟨define_request s tag o, fun _ => wrongLength_of_withOps rfl rfl⟩

/-! ## The columns of LAYOUT -/

theorem field?_eq_some {n : Nat} {f : Field} : Field.ofNat? n = some f ↔ f.num = n := by
  constructor
  · intro h
    unfold Field.ofNat? at h
    split at h <;> cases h <;> rfl
  · rintro rfl
    cases f <;> rfl

/-- A byte is the number of the source it gives (R184). -/
theorem source?_eq_some {b : Byte} {src : Source} : Source.ofByte? b = some src ↔ sourceNum src = b.toNat := by
  unfold Source.ofByte?
  constructor
  · intro h
    split at h
    · next hb => cases h; exact hb.symm
    · next hb => cases h; exact hb.symm
    · next hb => cases h; exact hb.symm
    · next hb => cases h; exact hb.symm
    · obtain ⟨f, hf, rfl⟩ := Option.map_eq_some_iff.mp h
      exact field?_eq_some.mp hf
  · intro h
    rw [← h]
    cases src with
    | field f => cases f <;> rfl
    | chg => rfl
    | pct => rfl
    | symbol => rfl
    | arrow => rfl

/-- The numbers 0 to 11 are those of the sources. -/
theorem exists_source {n : Nat} (hn : n ≤ 11) : ∃ src, sourceNum src = n :=
  match n, hn with
  | 0, _ => ⟨.field .bid, rfl⟩
  | 1, _ => ⟨.field .ask, rfl⟩
  | 2, _ => ⟨.field .last, rfl⟩
  | 3, _ => ⟨.field .bsize, rfl⟩
  | 4, _ => ⟨.field .asize, rfl⟩
  | 5, _ => ⟨.field .volume, rfl⟩
  | 6, _ => ⟨.field .ref, rfl⟩
  | 7, _ => ⟨.field .time, rfl⟩
  | 8, _ => ⟨.chg, rfl⟩
  | 9, _ => ⟨.pct, rfl⟩
  | 10, _ => ⟨.symbol, rfl⟩
  | 11, _ => ⟨.arrow, rfl⟩

theorem sourceNum_lt (src : Source) : sourceNum src < 12 := by
  cases src with
  | field f => exact f.num_lt.trans (by omega)
  | chg => decide
  | pct => decide
  | symbol => decide
  | arrow => decide

/-- Sources with one number are one source. -/
theorem sourceNum_inj {a b : Source} : sourceNum a = sourceNum b ↔ a = b := by
  refine ⟨fun h => ?_, congrArg _⟩
  have hb : (BitVec.ofNat 8 (sourceNum b)).toNat = sourceNum b := by
    have := sourceNum_lt b
    rw [BitVec.toNat_ofNat]
    omega
  exact Option.some.inj ((source?_eq_some.mpr (h.trans hb.symm)).symm.trans (source?_eq_some.mpr hb.symm))

theorem align?_eq_some {b : Byte} {a : Align} :
    Align.ofByte? b = some a ↔ b.toNat ≤ 1 ∧ a = if b = 0 then .left else .right := by
  unfold Align.ofByte?
  split
  · next hb => rw [(byte_eq_iff b 0 (by omega)).mpr hb]; simp [eq_comm]
  · next hb => rw [(byte_eq_iff b 1 (by omega)).mpr hb]; simp [eq_comm]
  · next h0 h1 =>
    have : ¬ b.toNat ≤ 1 := fun hle => (Nat.le_one_iff_eq_zero_or_eq_one.mp hle).elim h0 h1
    simp [this]

theorem onOff?_eq_some {b : Byte} {v : Bool} : onOff? b = some v ↔ b.toNat ≤ 1 ∧ v = decide (b = 1) := by
  unfold onOff?
  split
  · next hb => rw [(byte_eq_iff b 0 (by omega)).mpr hb]; simp [eq_comm]
  · next hb => rw [(byte_eq_iff b 1 (by omega)).mpr hb]; simp [eq_comm]
  · next h0 h1 =>
    have : ¬ b.toNat ≤ 1 := fun hle => (Nat.le_one_iff_eq_zero_or_eq_one.mp hle).elim h0 h1
    simp [this]

/-- The widths of a source (R26), said of its number. -/
theorem widthOk_iff {src : Source} {w : Nat} :
    src.widthOk w = true ↔
      1 ≤ w ∧ w ≤ 16 ∧ (sourceNum src = 10 → w ≤ 12) ∧ (sourceNum src = 11 → w = 1) := by
  cases src with
  | field f =>
    have := f.num_lt
    simp only [Source.widthOk, sourceNum, Bool.and_eq_true, decide_eq_true_eq]
    omega
  | chg => simp [Source.widthOk, sourceNum]
  | pct => simp [Source.widthOk, sourceNum]
  | symbol =>
    simp only [Source.widthOk, sourceNum, Bool.and_eq_true, decide_eq_true_eq, forall_const]
    omega
  | arrow =>
    simp only [Source.widthOk, sourceNum, beq_iff_eq, forall_const]
    omega

/-- A column of a request is read where its parts are in range, and then as R184 numbers them. -/
theorem column?_eq_some {c : ColumnOps} {k : Column} : column? c = some k ↔ columnOk c = true ∧ columnFrom c k := by
  have h10 : c.source = 10 ↔ c.source.toNat = 10 := byte_eq_iff c.source 10 (by omega)
  have h11 : c.source = 11 ↔ c.source.toNat = 11 := byte_eq_iff c.source 11 (by omega)
  simp only [column?, Option.bind_eq_bind, Option.bind_eq_some_iff, source?_eq_some, upTo?_eq_some, align?_eq_some,
    onOff?_eq_some, columnOk, columnFrom, decide_eq_true_eq, h10, h11]
  constructor
  · rintro ⟨src, hsrc, _, ⟨hoff, rfl⟩, _, ⟨hal, rfl⟩, _, ⟨hst, rfl⟩, _, ⟨hsep, rfl⟩, _, ⟨hmd, rfl⟩, _, ⟨hco, rfl⟩, h⟩
    split at h
    · next hw =>
      obtain rfl := Option.some.inj h
      obtain ⟨hw1, hw16, hsym, harr⟩ := widthOk_iff.mp hw
      rw [hsrc] at hsym harr
      have := sourceNum_lt src
      exact ⟨⟨by omega, hoff, hw1, hw16, hsym, harr, hal, hst, hsep, hmd, hco⟩, hsrc, rfl, rfl, rfl, rfl, rfl, rfl, rfl⟩
    · exact nomatch h
  · rintro ⟨⟨-, hoff, hw1, hw16, hsym, harr, hal, hst, hsep, hmd, hco⟩, hsrc, koff, kw, kal, kst, ksep, kmd, kco⟩
    refine ⟨k.source, hsrc, _, ⟨hoff, rfl⟩, _, ⟨hal, rfl⟩, _, ⟨hst, rfl⟩, _, ⟨hsep, rfl⟩, _, ⟨hmd, rfl⟩, _, ⟨hco, rfl⟩,
      ?_⟩
    rw [← hsrc] at hsym harr
    rw [if_pos (widthOk_iff.mpr ⟨hw1, hw16, hsym, harr⟩), ← koff, ← kw, ← kal, ← kst, ← ksep, ← kmd, ← kco]

theorem exists_column {c : ColumnOps} (h : columnOk c = true) : ∃ k, column? c = some k := by
  have hle : c.source.toNat ≤ 11 := by
    simp only [columnOk, decide_eq_true_eq] at h
    exact h.1
  obtain ⟨src, hsrc⟩ := exists_source hle
  exact ⟨⟨src, c.offset.toNat, c.width.toNat, _, c.style.toNat, _, c.maxdec.toNat, _⟩,
    column?_eq_some.mpr ⟨h, hsrc, rfl, rfl, rfl, rfl, rfl, rfl, rfl⟩⟩

/-- The columns of a request are read where each is in range. -/
theorem columns?_eq_some {l : List ColumnOps} {cs : List Column} :
    l.mapM column? = some cs ↔ l.all columnOk = true ∧ List.Forall₂ columnFrom l cs := by
  induction l generalizing cs with
  | nil => simp [eq_comm]
  | cons c l ih =>
    simp only [List.mapM_cons, Option.bind_eq_bind, Option.bind_eq_some_iff, Option.pure_def, column?_eq_some, ih,
      List.all_cons, Bool.and_eq_true, List.forall₂_cons_left_iff, Option.some.injEq]
    constructor
    · rintro ⟨k, ⟨hok, hk⟩, ks, ⟨hall, hks⟩, rfl⟩
      exact ⟨⟨hok, hall⟩, k, ks, hk, hks, rfl⟩
    · rintro ⟨⟨hok, hall⟩, k, ks, hk, hks, rfl⟩
      exact ⟨k, ⟨hok, hk⟩, ks, ⟨hall, hks⟩, rfl⟩

theorem exists_columns {l : List ColumnOps} (h : l.all columnOk = true) : ∃ cs, l.mapM column? = some cs := by
  induction l with
  | nil => exact ⟨[], rfl⟩
  | cons c l ih =>
    rw [List.all_cons, Bool.and_eq_true] at h
    obtain ⟨k, hk⟩ := exists_column h.1
    obtain ⟨ks, hks⟩ := ih h.2
    exact ⟨k :: ks, by simp [List.mapM_cons, hk, hks]⟩

/-! ## LAYOUT -/

/-- The number, offset and width of a column's source. -/
def columnKey (c : Column) : Nat × Nat × Nat := (sourceNum c.source, c.offset, c.width)

/-- The number, offset and width that a column of a request carries. -/
def opsKey (c : ColumnOps) : Nat × Nat × Nat := (c.source.toNat, c.offset.toNat, c.width.toNat)

theorem map_columnKey {l : List ColumnOps} {cs : List Column} (h : List.Forall₂ columnFrom l cs) :
    cs.map columnKey = l.map opsKey := by
  induction h with
  | nil => rfl
  | cons hc _ ih =>
    obtain ⟨hsrc, hoff, hw, -⟩ := hc
    rw [List.map_cons, List.map_cons, ih, columnKey, hsrc, hoff, hw]
    rfl

/-- A property of the keys holds of the columns read where it holds of those of the request. -/
theorem forall_columnKey {l : List ColumnOps} {cs : List Column} (h : List.Forall₂ columnFrom l cs)
    (Q : Nat × Nat × Nat → Prop) : (∀ c ∈ cs, Q (columnKey c)) ↔ ∀ c ∈ l, Q (opsKey c) := by
  rw [← List.forall_mem_map (P := Q), map_columnKey h, List.forall_mem_map]

theorem pairwise_columnKey {l : List ColumnOps} {cs : List Column} (h : List.Forall₂ columnFrom l cs)
    (R : Nat × Nat × Nat → Nat × Nat × Nat → Prop) :
    (cs.Pairwise fun a b => R (columnKey a) (columnKey b)) ↔ l.Pairwise fun a b => R (opsKey a) (opsKey b) := by
  rw [← List.pairwise_map (R := R), map_columnKey h, List.pairwise_map]

/-- The extent of a layout is the reach of one of its columns, 0 without columns (R26). -/
theorem exists_extent {cs : List Column} (h : cs ≠ []) : ∃ c ∈ cs, c.offset + c.width = extent cs := by
  have hmax : ∀ (l : List Nat) (m : Nat), l.foldl max m = m ∨ l.foldl max m ∈ l := by
    intro l
    induction l with
    | nil => exact fun _ => .inl rfl
    | cons a l ih =>
      intro m
      rcases ih (max m a) with heq | hmem
      · rw [List.foldl_cons, heq]
        rcases max_choice m a with hm | ha
        · exact .inl hm
        · exact .inr (by rw [ha]; exact List.mem_cons_self)
      · exact .inr (List.mem_cons_of_mem _ hmem)
  rcases hmax (cs.map fun c => c.offset + c.width) 0 with hzero | hmem
  · obtain ⟨c, hc⟩ := List.exists_mem_of_ne_nil cs h
    have hle := le_extent hc
    exact ⟨c, hc, by unfold extent at hle ⊢; omega⟩
  · exact List.mem_map.mp hmem

theorem extent_le_iff {cs : List Column} {m : Nat} : extent cs ≤ m ↔ ∀ c ∈ cs, c.offset + c.width ≤ m := by
  refine ⟨fun h c hc => (le_extent hc).trans h, fun h => ?_⟩
  by_cases hcs : cs = []
  · simp [hcs, extent]
  · obtain ⟨c, hc, heq⟩ := exists_extent hcs
    exact heq ▸ h c hc

/-- The first check of R28: the layout's number, the number of columns, and the columns' parts. -/
def layoutOk (o : LayoutOps) : Bool :=
  decide (o.layout.toNat ≤ 15 ∧ 1 ≤ o.columns.length ∧ o.columns.length ≤ 12) && o.columns.all columnOk

theorem layoutAction_badValue {o : LayoutOps} (s : State) (h : layoutOk o = false) :
    layoutAction o s = refuse .badValue s := by
  unfold layoutAction
  split
  · next l cs hl hcs =>
    obtain ⟨h15, -⟩ := upTo?_eq_some.mp hl
    obtain ⟨hall, hfrom⟩ := columns?_eq_some.mp hcs
    rw [if_pos]
    by_contra hlen
    have hno := (Bool.and_eq_false_iff.mp h).resolve_right fun hno => Bool.noConfusion (hall.symm.trans hno)
    rw [← hfrom.length_eq] at hlen
    exact of_decide_eq_false hno ⟨h15, by omega, by omega⟩
  · rfl

theorem layoutAction_eq {o : LayoutOps} (s : State) (h : layoutOk o = true) :
    ∃ cs, List.Forall₂ columnFrom o.columns cs ∧ cs ≠ [] ∧ layoutAction o s =
      if 200 < extent cs then refuse .range s
      else if anyPair (fun a b => a.source == b.source) cs then refuse .duplicate s
      else if anyPair (fun a b => runsMeet a.offset a.width b.offset b.width) cs then refuse .overlap s
      else if s.anyPlacement fun p => p.layout == o.layout.toNat then refuse .inUse s
      else accept (.extent (extent cs)) (s.setLayouts (Table.set none s.itb.layouts o.layout.toNat (some cs))) := by
  obtain ⟨hnum, hall⟩ := (Bool.and_eq_true _ _).mp h
  obtain ⟨h15, hpos, h12⟩ := of_decide_eq_true hnum
  obtain ⟨cs, hcs⟩ := exists_columns hall
  obtain ⟨-, hfrom⟩ := columns?_eq_some.mp hcs
  have hlen := hfrom.length_eq
  refine ⟨cs, hfrom, List.length_pos_iff.mp (by omega), ?_⟩
  unfold layoutAction
  rw [upTo?_of_le h15, hcs]
  exact if_neg (by omega)

/-- The four checks of R28 after the first, said of the columns read. -/
theorem layout_checks_iff {o : LayoutOps} {cs : List Column} (h : List.Forall₂ columnFrom o.columns cs) :
    (extent cs ≤ 200 ↔ (o.columns.all fun c => decide (c.offset.toNat + c.width.toNat ≤ 200)) = true) ∧
    (anyPair (fun a b => a.source == b.source) cs = false ↔ o.columns.Pairwise fun a b => a.source ≠ b.source) ∧
    (anyPair (fun a b => runsMeet a.offset a.width b.offset b.width) cs = false ↔
      o.columns.Pairwise fun a b => a.offset.toNat + a.width.toNat ≤ b.offset.toNat ∨
        b.offset.toNat + b.width.toNat ≤ a.offset.toNat) := by
  refine ⟨?_, ?_, ?_⟩
  · rw [extent_le_iff, List.all_eq_true]
    simp only [decide_eq_true_eq]
    exact forall_columnKey h fun k => k.2.1 + k.2.2 ≤ 200
  · rw [anyPair_eq_false]
    have := pairwise_columnKey h fun a b => a.1 ≠ b.1
    simpa [columnKey, opsKey, sourceNum_inj, BitVec.toNat_inj, beq_eq_false_iff_ne] using this
  · rw [anyPair_eq_false]
    simp only [runsMeet_eq_false]
    exact (pairwise_columnKey h fun a b => b.2.1 + b.2.2 ≤ a.2.1 ∨ a.2.1 + a.2.2 ≤ b.2.1).trans
      (List.Pairwise.iff fun _ _ => or_comm)

theorem layout_request (s : State) (tag : Byte) (o : LayoutOps) :
    Request (.layout tag (.ops o)) s (layoutChecks o s) (fun f t =>
      t = { s with fli := t.fli, itb := { s.itb with layouts := t.itb.layouts } } ∧
      (∃ cs, t.layout o.layout.toNat = some cs ∧ List.Forall₂ columnFrom o.columns cs) ∧
      (∀ l, l ≠ o.layout.toNat → t.layout l = s.layout l) ∧
      ∃ e, Answered s t f (.extent e) ∧ (∀ c ∈ o.columns, c.offset.toNat + c.width.toNat ≤ e) ∧
        ∃ c ∈ o.columns, c.offset.toNat + c.width.toNat = e) := by
  refine request_of_answers (act := layoutAction o) rfl rfl ?_
  unfold layoutChecks
  refine .check (fun hbad => layoutAction_badValue _ hbad) fun hval => ?_
  obtain ⟨cs, hfrom, hne, heq⟩ := layoutAction_eq s.dropHead hval
  obtain ⟨hrange, hdup, hmeet⟩ := layout_checks_iff hfrom
  refine .check (fun hbig => heq.trans (if_pos ?_)) fun hfits => .check (fun htwice => ?_) fun honce =>
    .check (fun hover => ?_) fun hapart => .check (fun hplaced => ?_) fun hunplaced => ?_
  · rw [← Nat.not_le, hrange, hbig]
    exact Bool.false_ne_true
  all_goals rw [if_neg (Nat.not_lt.mpr (hrange.mpr hfits))] at heq
  · refine heq.trans (if_pos ?_)
    rw [← Bool.not_eq_false, hdup]
    exact of_decide_eq_false htwice
  all_goals rw [if_neg (by rw [Bool.not_eq_true, hdup]; exact of_decide_eq_true honce)] at heq
  · refine heq.trans (if_pos ?_)
    rw [← Bool.not_eq_false, hmeet]
    exact of_decide_eq_false hover
  all_goals rw [if_neg (by rw [Bool.not_eq_true, hmeet]; exact of_decide_eq_true hapart)] at heq
  · exact heq.trans (if_pos (by simpa using hplaced))
  · have hreach : ∀ c ∈ o.columns, c.offset.toNat + c.width.toNat ≤ extent cs :=
      (forall_columnKey hfrom fun k => k.2.1 + k.2.2 ≤ extent cs).mp fun c hc => le_extent hc
    have hattained : ∃ c ∈ o.columns, c.offset.toNat + c.width.toNat = extent cs := by
      by_contra hno
      push Not at hno
      obtain ⟨c, hc, hce⟩ := exists_extent hne
      exact (forall_columnKey hfrom fun k => k.2.1 + k.2.2 ≠ extent cs).mpr hno c hc hce
    refine .accepted _ _ (heq.trans (if_neg (by simpa using hunplaced)))
      ⟨rfl, ⟨cs, Table.get_set_self .., hfrom⟩, fun l hl => ?_, _, answered_accept rfl _ _, hreach, hattained⟩
    exact (Table.get_set ..).trans (if_neg hl)

/-- Settles O18: LAYOUT from its action, check by check; the columns are read one by one. -/
theorem layoutDefines : Obligations.LayoutDefines := fun s tag o =>
  ⟨layout_request s tag o, fun _ => wrongLength_of_withOps rfl rfl⟩

end Sys2Proof.Claims
end

-- ==== Proofs: cells painted, blanked and released ====
section
/-!
SUPPORT. What painting and blanking placements leave in every cell: what is written in the last column over it, else what
stood there; and what the cells keep where flash entries end.
-/

namespace Sys2Proof.Claims

open Sys2Proof.Machine

/-! ## Columns written one after another -/

/-- The run covers cell `k`. -/
def covers (k : Nat) (a : Nat × Column) : Bool := decide (a.1 ≤ k ∧ k < a.1 + a.2.width)

/-- The columns at their cells, in their order, written with the cells `mk` gives for them. -/
def writeRuns (mk : Column → List Cell) (runs : List (Nat × Column)) (s : State) : State :=
  runs.foldl (fun s a => s.writeCells a.1 (mk a.2)) s

theorem writeRuns_frame (mk : Column → List Cell) (runs : List (Nat × Column)) (s : State) :
    SameButCells s (writeRuns mk runs s) :=
  foldl_rel SameButCells .refl (fun _ _ _ => .trans) (fun _ _ => State.writeCells_frame ..) _ _

/-- A cell holds what was written in the last column over it, else what stood there. -/
theorem cell_writeRuns {mk : Column → List Cell} (hmk : ∀ c, (mk c).length = c.width) (runs : List (Nat × Column))
    (s : State) (k : Nat) :
    (writeRuns mk runs s).cell k =
      (runs.reverse.find? (covers k)).elim (s.cell k) fun a => (mk a.2).getD (k - a.1) .blank := by
  induction runs using List.reverseRecOn with
  | nil => rfl
  | append_singleton runs a ih =>
    have hlast : writeRuns mk (runs ++ [a]) s = (writeRuns mk runs s).writeCells a.1 (mk a.2) := List.foldl_append ..
    rw [hlast, State.cell_writeCells, hmk, List.reverse_append, List.reverse_singleton, List.singleton_append]
    by_cases hk : a.1 ≤ k ∧ k < a.1 + a.2.width
    · have hcov : covers k a = true := decide_eq_true hk
      rw [if_pos hk, List.find?_cons_of_pos hcov]
      rfl
    · have hcov : ¬ covers k a = true := fun h => hk (of_decide_eq_true h)
      rw [if_neg hk, List.find?_cons_of_neg hcov, ih]

/-- The cells `mk` makes read nothing of the cells that stand. -/
def CellFree (mk : State → Column → List Cell) : Prop := ∀ s t, SameButCells s t → mk t = mk s

theorem columnCells_cellFree (n : Nat) : CellFree fun s c => s.columnCells n c :=
  fun _ _ h => funext fun c => State.columnCells_congr h n c

theorem blankCells_cellFree : CellFree State.blankCells := fun s t h => by
  funext c
  rw [h]
  rfl

/-- The places of columns are those of the pages and layouts. -/
theorem columnRuns_congr {s t : State} (hp : t.cst.pages = s.cst.pages) (hl : t.itb.layouts = s.itb.layouts)
    (ps : List Placement) : columnRuns t ps = columnRuns s ps := by
  unfold columnRuns
  simp only [State.page_congr hp, State.layout_congr hl]

theorem lastColumn_congr {s t : State} (hp : t.cst.pages = s.cst.pages) (hl : t.itb.layouts = s.itb.layouts)
    (ps : List Placement) (k : Nat) : lastColumn t ps k = lastColumn s ps k := by
  unfold lastColumn
  rw [columnRuns_congr hp hl]

theorem columnRuns_cons (s : State) (p : Placement) (ps : List Placement) :
    columnRuns s (p :: ps) = columnRuns s [p] ++ columnRuns s ps := by
  simp [columnRuns]

theorem columnRuns_eq {s : State} {p : Placement} {pg : Page} {cs : List Column} (hpg : s.page p.page = some pg)
    (hcs : s.layout p.layout = some cs) :
    columnRuns s [p] = cs.map fun c => (pg.base + p.row * pg.cols + p.col + c.offset, c) := by
  simp [columnRuns, hpg, hcs]

/-- Writing a placement writes the runs of its columns. -/
theorem writePlacement_eq_runs {mk : State → Column → List Cell} (hmk : CellFree mk) (s : State) (p : Placement) :
    s.writePlacement mk p = writeRuns (mk s) (columnRuns s [p]) s := by
  have hcols : ∀ (pg : Page) (cs : List Column) (t : State), SameButCells s t →
      cs.foldl (State.writeColumn mk pg p) t =
        writeRuns (mk s) (cs.map fun c => (pg.base + p.row * pg.cols + p.col + c.offset, c)) t := by
    intro pg cs
    induction cs with
    | nil => exact fun _ _ => rfl
    | cons c cs ih =>
      intro t ht
      have hwrite : State.writeColumn mk pg p t c =
          t.writeCells (pg.base + p.row * pg.cols + p.col + c.offset) (mk s c) := by
        unfold State.writeColumn Page.cellIndex
        rw [hmk s t ht, ← Nat.add_assoc]
      change cs.foldl _ (State.writeColumn mk pg p t c) = _
      rw [hwrite, ih _ (ht.trans (State.writeCells_frame ..))]
      rfl
  cases hpg : s.page p.page with
  | none => simp [State.writePlacement, columnRuns, hpg, writeRuns]
  | some pg =>
    cases hcs : s.layout p.layout with
    | none => simp [State.writePlacement, columnRuns, hpg, hcs, writeRuns]
    | some cs => rw [State.writePlacement_eq mk s p hpg hcs, columnRuns_eq hpg hcs, hcols pg cs s (.refl s)]

/-- Writing placements in their order writes the runs of all their columns. -/
theorem writePlacements_eq_runs {mk : State → Column → List Cell} (hmk : CellFree mk) (ps : List Placement)
    (s : State) :
    ps.foldl (fun s p => s.writePlacement mk p) s = writeRuns (mk s) (columnRuns s ps) s := by
  induction ps generalizing s with
  | nil => rfl
  | cons p ps ih =>
    have hframe : SameButCells s (s.writePlacement mk p) := State.writePlacement_frame ..
    rw [List.foldl_cons, ih, hmk _ _ hframe, columnRuns_congr hframe.flash.pages (congrArg Itb.layouts hframe.itb),
      columnRuns_cons, writePlacement_eq_runs hmk]
    exact (List.foldl_append ..).symm

/-- After placements are written a cell holds what is written in the last column over it, else what stood there. -/
theorem cell_writePlacements {mk : State → Column → List Cell} (hmk : CellFree mk)
    (hlen : ∀ s c, (mk s c).length = c.width) (ps : List Placement) (s : State) (k : Nat) :
    (ps.foldl (fun s p => s.writePlacement mk p) s).cell k =
      (lastColumn s ps k).elim (s.cell k) fun a => (mk s a.2).getD (k - a.1) .blank := by
  rw [writePlacements_eq_runs hmk, cell_writeRuns (hlen s)]
  rfl

/-! ## The last column over a cell -/

/-- The cells of the columns of placements, by the places of the columns. -/
theorem inPlacements_iff {s : State} {ps : List Placement} {k : Nat} :
    inPlacements s ps k ↔ ∃ a ∈ columnRuns s ps, a.1 ≤ k ∧ k < a.1 + a.2.width := by
  unfold inPlacements inColumn columnRuns
  simp only [List.mem_flatMap]
  constructor
  · rintro ⟨p, hp, c, pg, hpg, cs, hcs, hc, hle, hlt⟩
    exact ⟨_, ⟨p, hp, by rw [hpg, hcs]; exact List.mem_map_of_mem hc⟩, hle, hlt⟩
  · rintro ⟨a, ⟨p, hp, ha⟩, hle, hlt⟩
    split at ha
    · next pg cs hpg hcs =>
      obtain ⟨c, hc, rfl⟩ := List.mem_map.mp ha
      exact ⟨p, hp, c, pg, hpg, cs, hcs, hc, hle, hlt⟩
    · exact nomatch ha

theorem lastColumn_eq_none {s : State} {ps : List Placement} {k : Nat} :
    lastColumn s ps k = none ↔ ¬ inPlacements s ps k := by
  rw [inPlacements_iff]
  unfold lastColumn
  simp [List.find?_eq_none]

theorem lastColumn_eq_some {s : State} {ps : List Placement} {k : Nat} {a : Nat × Column}
    (h : lastColumn s ps k = some a) : a ∈ columnRuns s ps ∧ a.1 ≤ k ∧ k < a.1 + a.2.width :=
  ⟨List.mem_reverse.mp (List.mem_of_find?_eq_some h), of_decide_eq_true (List.find?_some (p := covers k) h)⟩

theorem exists_lastColumn {s : State} {ps : List Placement} {k : Nat} (h : inPlacements s ps k) :
    ∃ a, lastColumn s ps k = some a :=
  Option.ne_none_iff_exists'.mp fun hnone => lastColumn_eq_none.mp hnone h

/-- The last column of one placement over a cell is a column that the cell belongs to. -/
theorem inColumn_of_lastColumn {s : State} {p : Placement} {k : Nat} {a : Nat × Column}
    (h : lastColumn s [p] k = some a) : inColumn s p a.2 k := by
  obtain ⟨ha, hle, hlt⟩ := lastColumn_eq_some h
  simp only [columnRuns, List.flatMap_cons, List.flatMap_nil, List.append_nil] at ha
  split at ha
  · next pg cs hpg hcs =>
    obtain ⟨c, hc, rfl⟩ := List.mem_map.mp ha
    exact ⟨pg, hpg, cs, hcs, hc, hle, hlt⟩
  · exact nomatch ha

/-! ## Painting and blanking -/

/-- A placement of slot `n` painted: the formatter's cell of the last column over a cell, else what stood there. -/
theorem cell_paint (s : State) (n : Nat) (p : Placement) (k : Nat) :
    (s.paint n p).cell k = (lastColumn s [p] k).elim (s.cell k) fun a => (s.columnCells n a.2).getD (k - a.1) .blank :=
  cell_writePlacements (columnCells_cellFree n) (fun s c => s.columnCells_length n c) [p] s k

theorem cell_paintSlot (s : State) (n : Nat) (k : Nat) :
    (s.paintSlot n).cell k =
      (lastColumn s (s.slot n).placements k).elim (s.cell k) fun a => (s.columnCells n a.2).getD (k - a.1) .blank :=
  cell_writePlacements (columnCells_cellFree n) (fun s c => s.columnCells_length n c) _ s k

/-- A cell within a column is the formatter's cell of its position. -/
theorem getElem?_columnCells {s : State} {n k : Nat} {a : Nat × Column} (h : a.1 ≤ k ∧ k < a.1 + a.2.width) :
    (s.columnCells n a.2)[k - a.1]? = some ((s.columnCells n a.2).getD (k - a.1) .blank) := by
  have hlt : k - a.1 < (s.columnCells n a.2).length := by
    rw [State.columnCells_length]
    omega
  rw [List.getElem?_eq_getElem hlt, List.getD_eq_getElem _ _ hlt]

/-- The stale mark of the formatter's cells is that of the slot (R99). -/
theorem stale_columnCells {s : State} {n k : Nat} {a : Nat × Column} (h : a.1 ≤ k ∧ k < a.1 + a.2.width) :
    ((s.columnCells n a.2).getD (k - a.1) .blank).stale = ((s.slot n).state == .stale) := by
  obtain ⟨code, -, hcode⟩ := List.mem_map.mp (List.mem_of_getElem? (getElem?_columnCells (s := s) (n := n) h))
  rw [← hcode]

theorem getD_blankCells {s : State} {k : Nat} {a : Nat × Column} (h : a.1 ≤ k ∧ k < a.1 + a.2.width) :
    (s.blankCells a.2).getD (k - a.1) .blank = blanked (s.style a.2.style) := by
  have hlt : k - a.1 < (s.blankCells a.2).length := by
    rw [State.blankCells_length]
    omega
  rw [List.getD_eq_getElem _ _ hlt]
  exact List.eq_of_mem_replicate (List.getElem_mem hlt)

/-- Blanked placements: what blanking writes in the last column over a cell, else what stood there (R25). -/
theorem cell_blankPlacements (ps : List Placement) (s : State) (k : Nat) :
    (ps.foldl State.blankPlacement s).cell k =
      (lastColumn s ps k).elim (s.cell k) fun a => blanked (s.style a.2.style) := by
  refine (cell_writePlacements blankCells_cellFree (fun s c => s.blankCells_length c) ps s k).trans ?_
  cases h : lastColumn s ps k with
  | none => rfl
  | some a => exact getD_blankCells (lastColumn_eq_some h).2

/-! ## Cells whose entry ends -/

theorem sameButRef.refl (c : Cell) : sameButRef c c := ⟨rfl, .inl rfl⟩

theorem sameButRef.trans {a b c : Cell} (h : sameButRef a b) (h' : sameButRef b c) : sameButRef a c := by
  refine ⟨h.1.trans h'.1, ?_⟩
  rcases h.2 with h1 | h1
  · rw [h1]
    exact h'.2
  · exact .inr h1

theorem sameButRef_release (c : Cell) (i : Nat) : sameButRef (c.release i) c := by
  unfold Cell.release
  split
  · exact ⟨rfl, .inr rfl⟩
  · exact .refl c

/-- One of the entry's spans holds cell `k`. -/
def spansHold (x : FlashEntry) (k : Nat) : Bool := x.spans.any fun sp => sp.holds k

theorem spansHold_iff {x : FlashEntry} {k : Nat} :
    spansHold x k = true ↔ ∃ sp ∈ x.spans, sp.cell ≤ k ∧ k < sp.cell + sp.width := by
  simp [spansHold, Span.holds_iff]

/-- Where an entry ends, the cells of its spans that name it lose their reference, and every other stays (R106). -/
theorem cell_endFlash {s : State} (hc : Table.wf .blank s.cst.cells = true) (i k : Nat) :
    (s.endFlash i).cell k = (s.flashEntry i).elim (s.cell k) fun x =>
      if spansHold x k then (s.cell k).release i else s.cell k := by
  unfold State.endFlash
  split
  · next e he =>
    rw [he]
    exact Table.get_adjust hc (fun k c => if e.spans.any fun sp => sp.holds k then c.release i else c)
      (fun k => by split <;> rfl) k
  · next hnone =>
    rw [hnone]
    rfl

theorem wf_cells_endFlash {s : State} (hc : Table.wf .blank s.cst.cells = true) (i : Nat) :
    Table.wf .blank (s.endFlash i).cst.cells = true := by
  unfold State.endFlash
  split
  · next e _ => exact Table.wf_adjust hc fun k c => if e.spans.any fun sp => sp.holds k then c.release i else c
  · exact hc

/-- The cells are those of `s` but for references. -/
structure CellsButRefs (s t : State) : Prop where
  wf : Table.wf .blank t.cst.cells = true
  same : ∀ k, sameButRef (t.cell k) (s.cell k)

namespace CellsButRefs

variable {s t u : State}

theorem refl (h : Table.wf .blank s.cst.cells = true) : CellsButRefs s s := ⟨h, fun _ => .refl _⟩

theorem congr (h : CellsButRefs s t) (hu : u.cst.cells = t.cst.cells) : CellsButRefs s u :=
  ⟨hu ▸ h.wf, fun k => State.cell_congr hu k ▸ h.same k⟩

theorem endFlash (h : CellsButRefs s t) (i : Nat) : CellsButRefs s (t.endFlash i) := by
  refine ⟨wf_cells_endFlash h.wf i, fun k => sameButRef.trans ?_ (h.same k)⟩
  rw [cell_endFlash h.wf]
  cases t.flashEntry i with
  | none => exact .refl _
  | some x =>
    change sameButRef (if spansHold x k then _ else _) _
    split
    · exact sameButRef_release ..
    · exact .refl _

end CellsButRefs

end Sys2Proof.Claims
end

-- ==== Proofs: PLACE, UNPLACE and DROP ====
section
/-!
O17, O19, O20. DROP, PLACE and UNPLACE: what their parts leave in each slot, flash entry and cell, what each action answers,
then the statements.
-/

namespace Sys2Proof.Machine

@[simp] theorem State.slot_dropHead (s : State) (n : Nat) : s.dropHead.slot n = s.slot n := rfl

/-- DROP after its first part: the slot's pending entries and its place on the dirty list are gone (R24). -/
def State.unqueued (s : State) (n : Nat) : State :=
  s.setUpq { s.upq with
    pool := Table.clearRun s.upq.pool (poolKey n 0) 8
    dirty := s.upq.dirty.filter (· != n) }

/-- DROP after the slot's flash entries have ended. -/
def State.unflashed (s : State) (n : Nat) : State := (s.flashesOf n).foldl State.endFlash (s.unqueued n)

/-- DROP after the slot's alerts have gone. -/
def State.silenced (s : State) (n : Nat) : State :=
  (s.unflashed n).setFau { (s.unflashed n).fau with alerts := (s.unflashed n).fau.alerts.filter fun a => a.slot != n }

/-- DROP after the slot's placements are blanked (R25). -/
def State.undrawn (s : State) (n : Nat) : State :=
  ((s.silenced n).slot n).placements.foldl State.blankPlacement (s.silenced n)

theorem State.dropSlot_eq (s : State) (n : Nat) : s.dropSlot n = (s.undrawn n).setSlot n .empty := rfl

theorem State.undrawn_frame (s : State) (n : Nat) : SameButCells (s.silenced n) (s.undrawn n) :=
  foldl_rel SameButCells .refl (fun _ _ _ => .trans) (fun _ _ => State.blankPlacement_frame ..) _ _

end Sys2Proof.Machine

namespace Sys2Proof.Claims

open Sys2Proof.Machine

/-! ## The parts of PLACE -/

theorem cell_listPlacement (s : State) (n : Nat) (p : Placement) (k : Nat) :
    (s.listPlacement n p).cell k = s.cell k := rfl

theorem slot_listPlacement (s : State) (n : Nat) (p : Placement) (m : Nat) :
    (s.listPlacement n p).slot m =
      if m = n then { s.slot n with placements := (s.slot n).placements ++ [p] } else s.slot m := Table.get_set ..

theorem flashEntry_listPlacement {s : State} (hwf : Table.wf none s.fau.flash = true) (n : Nat) (p : Placement)
    (i : Nat) :
    (s.listPlacement n p).flashEntry i = (s.flashEntry i).map fun x =>
      if x.slot = n then { x with spans := x.spans ++ (s.placementSpan x.field p).toList } else x := by
  let s1 := s.setSlot n { s.slot n with placements := (s.slot n).placements ++ [p] }
  refine (Table.get_adjust hwf (fun _ e => s1.extendSpans n p e) (fun _ => rfl) i).trans ?_
  change s1.extendSpans n p (s.flashEntry i) = _
  cases s.flashEntry i with
  | none => rfl
  | some x =>
    unfold State.extendSpans
    simp only [Option.map_some]
    split <;> rfl

/-- In a layout without a source twice, the columns of a source are the first one of it. -/
theorem filter_source {cs : List Column} (h : cs.Pairwise fun a b => a.source ≠ b.source) (src : Source) :
    (cs.filter fun c => c.source = src) = (cs.find? fun c => c.source == src).toList := by
  induction cs with
  | nil => rfl
  | cons c cs ih =>
    obtain ⟨hc, hcs⟩ := List.pairwise_cons.mp h
    by_cases hsrc : c.source = src
    · have hrest : (cs.filter fun d => d.source = src) = [] :=
        List.filter_eq_nil_iff.mpr fun d hd => by simpa [hsrc, eq_comm] using hc d hd
      simp [hsrc, hrest]
    · simp [hsrc, ih hcs]

theorem placementSpan_toList {s : State} {p : Placement} {pg : Page} {cs : List Column} (hpg : s.page p.page = some pg)
    (hcs : s.layout p.layout = some cs) (h : cs.Pairwise fun a b => a.source ≠ b.source) (f : Field) :
    (s.placementSpan f p).toList = (cs.filter fun c => c.source = .field f).map fun c =>
      ⟨p.page, pg.base + p.row * pg.cols + p.col + c.offset, c.width⟩ := by
  rw [filter_source h]
  simp only [State.placementSpan, hpg, hcs, Page.cellIndex, Nat.add_assoc]
  cases cs.find? fun c => c.source == .field f <;> rfl

/-- In a layout of disjoint columns, the last column over a cell of a column is that column (R26). -/
theorem lastColumn_of_inColumn {s : State} {p : Placement} {pg : Page} {cs : List Column}
    (hpg : s.page p.page = some pg) (hcs : s.layout p.layout = some cs)
    (h : cs.Pairwise fun a b => runsMeet a.offset a.width b.offset b.width = false) {c : Column} (hc : c ∈ cs)
    {j : Nat} (hj : j < c.width) :
    lastColumn s [p] (pg.base + p.row * pg.cols + p.col + c.offset + j) =
      some (pg.base + p.row * pg.cols + p.col + c.offset, c) := by
  obtain ⟨a, ha⟩ := exists_lastColumn (s := s) (ps := [p]) (k := pg.base + p.row * pg.cols + p.col + c.offset + j)
    ⟨p, List.mem_singleton_self p, c, pg, hpg, cs, hcs, hc, by omega, by omega⟩
  obtain ⟨hmem, hle, hlt⟩ := lastColumn_eq_some ha
  rw [columnRuns_eq hpg hcs] at hmem
  obtain ⟨d, hd, rfl⟩ := List.mem_map.mp hmem
  have _ : Std.Symm fun a b : Column => runsMeet a.offset a.width b.offset b.width = false :=
    ⟨fun _ _ hab => runsMeet_comm .. ▸ hab⟩
  by_cases hcd : c = d
  · rw [ha, hcd]
  · have := runsMeet_eq_false.mp (h.forall hc hd hcd)
    simp only at hle hlt
    omega

/-! ## PLACE -/

/-- PLACE's operands are in the ranges of R32. -/
abbrev placeOk (o : PlaceOps) : Prop :=
  o.page.toNat ≤ 15 ∧ o.row.toNat ≤ 127 ∧ o.col.toNat ≤ 199 ∧ o.layout.toNat ≤ 15

/-- The placement that PLACE's operands name. -/
def placementOf (o : PlaceOps) : Placement := ⟨o.page.toNat, o.row.toNat, o.col.toNat, o.layout.toNat⟩

theorem placeAction_badValue {o : PlaceOps} (s : State) (h : ¬ placeOk o) : placeAction o s = refuse .badValue s := by
  unfold placeAction
  simp only
  split
  · next page row col l hpage hrow hcol hl =>
    obtain ⟨h1, -⟩ := upTo?_eq_some.mp hpage
    obtain ⟨h2, -⟩ := upTo?_eq_some.mp hrow
    obtain ⟨h3, -⟩ := upTo?_eq_some.mp hcol
    obtain ⟨h4, -⟩ := upTo?_eq_some.mp hl
    exact absurd ⟨h1, h2, h3, h4⟩ h
  · rfl

theorem placeAction_eq {o : PlaceOps} (s : State) (h : placeOk o) :
    placeAction o s =
      if (s.slot o.slot.toNat).defined then
        match s.page o.page.toNat with
        | none => refuse .noPage s
        | some pg =>
          match s.layout o.layout.toNat with
          | none => refuse .noLayout s
          | some cs =>
            if o.row.toNat < pg.rows ∧ o.col.toNat + extent cs ≤ pg.cols then
              if (s.slot o.slot.toNat).placements.length < 4 ∧ s.placementsUsed < 512 then
                accept (.index (s.slot o.slot.toNat).placements.length)
                  (s.addPlacement o.slot.toNat (placementOf o))
              else refuse .full s
            else refuse .range s
      else refuse .noSlot s := by
  obtain ⟨h1, h2, h3, h4⟩ := h
  unfold placeAction
  rw [upTo?_of_le h1, upTo?_of_le h2, upTo?_of_le h3, upTo?_of_le h4]
  rfl

section

variable {o : PlaceOps} (s : State) (h : placeOk o)
include h

theorem placeAction_noSlot (hd : (s.slot o.slot.toNat).defined = false) : placeAction o s = refuse .noSlot s :=
  (placeAction_eq s h).trans (if_neg (by simp [hd]))

variable (hd : (s.slot o.slot.toNat).defined = true)
include hd

theorem placeAction_noPage (hpg : s.page o.page.toNat = none) : placeAction o s = refuse .noPage s := by
  rw [placeAction_eq s h, if_pos hd, hpg]

theorem placeAction_noLayout {pg : Page} (hpg : s.page o.page.toNat = some pg)
    (hcs : s.layout o.layout.toNat = none) : placeAction o s = refuse .noLayout s := by
  rw [placeAction_eq s h, if_pos hd, hpg, hcs]

theorem placeAction_named {pg : Page} {cs : List Column} (hpg : s.page o.page.toNat = some pg)
    (hcs : s.layout o.layout.toNat = some cs) :
    placeAction o s =
      if o.row.toNat < pg.rows ∧ o.col.toNat + extent cs ≤ pg.cols then
        if (s.slot o.slot.toNat).placements.length < 4 ∧ s.placementsUsed < 512 then
          accept (.index (s.slot o.slot.toNat).placements.length) (s.addPlacement o.slot.toNat (placementOf o))
        else refuse .full s
      else refuse .range s := by
  rw [placeAction_eq s h, if_pos hd, hpg, hcs]

end

/-- R32's range check, said of the columns one by one. -/
theorem extent_fits_iff {cs : List Column} {row rows col cols : Nat} :
    (row < rows ∧ col + extent cs ≤ cols) ↔
      (row < rows ∧ ∀ c ∈ cs, col + (c.offset + c.width) ≤ cols) ∧ col ≤ cols := by
  constructor
  · rintro ⟨hrow, hext⟩
    exact ⟨⟨hrow, fun c hc => by have := le_extent hc; omega⟩, by omega⟩
  · rintro ⟨⟨hrow, hcols⟩, hcol⟩
    have : extent cs ≤ cols - col := extent_le_iff.mpr fun c hc => by have := hcols c hc; omega
    exact ⟨hrow, by omega⟩

/-- What an accepted PLACE leaves (R33). -/
structure PlaceDone (s u : State) (n : Nat) (p : Placement) : Prop where
  frame : u = { s with
    cst := { s.cst with cells := u.cst.cells }
    itb := { s.itb with slots := u.itb.slots }
    fau := { s.fau with flash := u.fau.flash } }
  slot : ∀ m, u.slot m = if m = n then { s.slot n with placements := (s.slot n).placements ++ [p] } else s.slot m
  entry : ∀ i, u.flashEntry i = (s.flashEntry i).map fun x =>
    if x.slot = n then { x with spans := x.spans ++ (s.placementSpan x.field p).toList } else x
  cell : ∀ k, u.cell k =
    (lastColumn s [p] k).elim (s.cell k) fun a => (u.columnCells n a.2).getD (k - a.1) .blank

theorem addPlacement_done {s : State} (hwf : Table.wf none s.fau.flash = true) (n : Nat) (p : Placement) :
    PlaceDone s (s.addPlacement n p) n p := by
  have hframe : SameButCells (s.listPlacement n p) (s.addPlacement n p) := State.writePlacement_frame ..
  refine ⟨?_, fun m => ?_, fun i => ?_, fun k => ?_⟩
  · rw [hframe]
    rfl
  · rw [hframe.slot, slot_listPlacement]
  · rw [State.flashEntry_congr (congrArg Fau.flash hframe.fau), flashEntry_listPlacement hwf]
  · simp only [State.columnCells_congr hframe]
    exact cell_paint (s.listPlacement n p) n p k

theorem place_request {s : State} (hwf : Table.wf none s.fau.flash = true) (hlayout : s.layoutLaw) (tag : Byte)
    (o : PlaceOps) :
    Request (.place tag (.ops o)) s (placeChecks o s) (fun f t =>
      let n := o.slot.toNat
      let p : Placement := ⟨o.page.toNat, o.row.toNat, o.col.toNat, o.layout.toNat⟩
      Answered s t f (.index (s.slot n).placements.length) ∧
      t = { s with
        fli := t.fli
        cst := { s.cst with cells := t.cst.cells }
        itb := { s.itb with slots := t.itb.slots }
        fau := { s.fau with flash := t.fau.flash } } ∧
      (∀ m, t.slot m = if m = n then { s.slot n with placements := (s.slot n).placements ++ [p] } else s.slot m) ∧
      ∀ pg cs, s.page p.page = some pg → s.layout p.layout = some cs →
        let a := pg.base + p.row * pg.cols + p.col
        (∀ i, t.flashEntry i = (s.flashEntry i).map fun x =>
          if x.slot = n then
            { x with
              spans := x.spans ++ ((cs.filter fun c => c.source = .field x.field).map fun c =>
                ⟨p.page, a + c.offset, c.width⟩) }
          else x) ∧
        (∀ c ∈ cs, ∀ j < c.width, some (t.cell (a + c.offset + j)) = (t.columnCells n c)[j]?) ∧
        ∀ k, (∀ c, ¬ inColumn s p c k) → t.cell k = s.cell k) := by
  refine request_of_answers (act := placeAction o) rfl rfl ?_
  unfold placeChecks
  refine .check (fun hbad => placeAction_badValue _ (of_decide_eq_false hbad)) fun hval => ?_
  have hok := of_decide_eq_true hval
  refine .check (fun hfree => placeAction_noSlot s.dropHead hok ((defined_eq _).trans hfree)) fun hdef => ?_
  have hd := (defined_eq _).trans hdef
  refine .check (fun hnone => placeAction_noPage s.dropHead hok hd (Option.isSome_eq_false_iff.mp hnone |>
    Option.isNone_iff_eq_none.mp)) fun hsome => ?_
  obtain ⟨pg, hpg⟩ := Option.isSome_iff_exists.mp hsome
  refine .check (fun hnone => placeAction_noLayout s.dropHead hok hd hpg (Option.isSome_eq_false_iff.mp hnone |>
    Option.isNone_iff_eq_none.mp)) fun hsome => ?_
  obtain ⟨cs, hcs⟩ := Option.isSome_iff_exists.mp hsome
  have heq := placeAction_named s.dropHead hok hd hpg hcs
  rw [hpg, hcs]
  simp only [Option.any_some]
  refine .check (fun hout => heq.trans (if_neg fun hfits => ?_)) fun hin => ?_
  · obtain ⟨h1, h2⟩ := extent_fits_iff.mp hfits
    rw [decide_eq_true h1, decide_eq_true h2] at hout
    exact nomatch hout
  rw [Bool.and_eq_true] at hin
  replace heq := heq.trans (if_pos (extent_fits_iff.mpr ⟨of_decide_eq_true hin.1, of_decide_eq_true hin.2⟩))
  refine .check (fun hfull => heq.trans (if_neg (of_decide_eq_false hfull))) fun hroom => ?_
  replace heq := heq.trans (if_pos (of_decide_eq_true hroom))
  have hdone := addPlacement_done (s := s.dropHead) hwf o.slot.toNat (placementOf o)
  have hcolumns := ((layoutLaw_iff hlayout.1).mp hlayout _ _ hcs).2
  obtain ⟨-, -, -, hpair⟩ := hcolumns
  refine .accepted _ _ heq ⟨answered_accept ?_ _ _, ?_, hdone.slot, fun pg' cs' hpg' hcs' => ?_⟩
  · rw [hdone.frame]
  · rw [finish_accept, hdone.frame]
    rfl
  · obtain rfl : pg = pg' := Option.some.inj (hpg.symm.trans hpg')
    obtain rfl : cs = cs' := Option.some.inj (hcs.symm.trans hcs')
    refine ⟨fun i => ?_, fun c hc j hj => ?_, fun k hk => ?_⟩
    · refine (hdone.entry i).trans ?_
      simp only [placementSpan_toList (s := s.dropHead) (p := placementOf o) hpg hcs (hpair.imp fun h => h.1)]
      rfl
    · have hlast := lastColumn_of_inColumn (s := s.dropHead) (p := placementOf o) hpg hcs (hpair.imp fun h => h.2) hc hj
      have hcov := (lastColumn_eq_some hlast).2
      have hcell := hdone.cell (pg.base + (placementOf o).row * pg.cols + (placementOf o).col + c.offset + j)
      rw [hlast] at hcell
      refine (congrArg some hcell).trans ((getElem?_columnCells hcov).symm.trans ?_)
      rw [Nat.add_sub_cancel_left]
      rfl
    · refine (hdone.cell k).trans ?_
      rw [lastColumn_eq_none.mpr]
      · rfl
      · rintro ⟨q, hq, c, hin⟩
        obtain rfl := List.mem_singleton.mp hq
        exact hk c hin

/-- Settles O19: PLACE from its action, check by check; the columns of a layout are disjoint, so that each cell is
painted once. -/
theorem placeAppendsAndPaints : Obligations.PlaceAppendsAndPaints := fun _ tag o hwf hlayout =>
  ⟨place_request hwf hlayout tag o, fun _ => wrongLength_of_withOps rfl rfl⟩

/-! ## UNPLACE -/

theorem flashEntry_unlistPlacement {s : State} (hwf : Table.wf none s.fau.flash = true) (n k i : Nat) :
    (s.unlistPlacement n k).flashEntry i = s.cutSpans n k (s.flashEntry i) :=
  Table.get_adjust hwf (fun _ e => s.cutSpans n k e) (fun _ => rfl) i

theorem slot_unlistPlacement (s : State) (n k m : Nat) :
    (s.unlistPlacement n k).slot m =
      if m = n then { s.slot n with placements := (s.slot n).placements.eraseIdx k } else s.slot m := Table.get_set ..

/-- An entry whose spans are those of its slot's placements has, after the cut, those of the placements left. -/
theorem cutSpans_eq {s : State} {n k : Nat} {x : FlashEntry} (h : x.spans = s.spansOf x.slot x.field) :
    s.cutSpans n k (some x) =
      some (if x.slot = n then { x with spans := (s.unlistPlacement n k).spansOf n x.field } else x) := by
  have hspans : (s.unlistPlacement n k).spansOf n x.field =
      if ((s.slot n).placements[k]?).any (s.showsField x.field) then
        ((s.slot n).placements.filterMap (s.placementSpan x.field)).eraseIdx
          (((s.slot n).placements.take k).countP (s.showsField x.field))
      else (s.slot n).placements.filterMap (s.placementSpan x.field) := by
    change ((s.unlistPlacement n k).slot n).placements.filterMap (s.placementSpan x.field) = _
    rw [slot_unlistPlacement, if_pos rfl]
    exact filterMap_eraseIdx ..
  rw [hspans]
  unfold State.cutSpans
  simp only
  by_cases hn : x.slot = n
  · have hx : x.spans = (s.slot n).placements.filterMap (s.placementSpan x.field) := hn ▸ h
    simp only [hn, true_and, if_true]
    rw [← hx]
    split
    · rfl
    · rw [← hn]
  · simp only [hn, false_and, if_false]

/-- What an accepted UNPLACE of the placement `p` at index `k` leaves (R35). -/
structure UnplaceDone (s u : State) (n k : Nat) (p : Placement) : Prop where
  frame : u = { s with
    cst := { s.cst with cells := u.cst.cells }
    itb := { s.itb with slots := u.itb.slots }
    fau := { s.fau with flash := u.fau.flash } }
  slot : ∀ m, u.slot m =
    if m = n then { s.slot n with placements := (s.slot n).placements.eraseIdx k } else s.slot m
  entry : ∀ i, u.flashEntry i = (s.flashEntry i).map fun x =>
    if x.slot = n then { x with spans := u.spansOf n x.field } else x
  cell : ∀ c, u.cell c = (lastColumn s [p] c).elim (s.cell c) fun a => blanked (s.style a.2.style)

theorem removePlacement_done {s : State} (hwf : Table.wf none s.fau.flash = true)
    (hspans : ∀ i x, s.flashEntry i = some x → x.spans = s.spansOf x.slot x.field) (n k : Nat) (p : Placement) :
    UnplaceDone s (s.removePlacement n k p) n k p := by
  have hframe : SameButCells s (s.blankPlacement p) := State.blankPlacement_frame ..
  have hflash : (s.blankPlacement p).fau = s.fau := hframe.fau
  refine ⟨?_, fun m => ?_, fun i => ?_, fun c => cell_blankPlacements [p] s c⟩
  · rw [State.removePlacement_eq, hframe]
    rfl
  · rw [State.removePlacement_eq, slot_unlistPlacement, hframe.slot, hframe.slot]
  · rw [State.removePlacement_eq, flashEntry_unlistPlacement (hflash ▸ hwf),
      State.flashEntry_congr (congrArg Fau.flash hflash)]
    cases hx : s.flashEntry i with
    | none => rfl
    | some x =>
      refine cutSpans_eq ((hspans i x hx).trans ?_)
      rw [hframe]
      rfl

theorem unplaceAction_eq {o : UnplaceOps} (s : State) (h : o.index.toNat ≤ 3) :
    unplaceAction o s =
      if (s.slot o.slot.toNat).defined then
        match (s.slot o.slot.toNat).placements[o.index.toNat]? with
        | none => refuse .range s
        | some p => accept .empty (s.removePlacement o.slot.toNat o.index.toNat p)
      else refuse .noSlot s := by
  unfold unplaceAction
  rw [upTo?_of_le h] <;> rfl

theorem unplace_request {s : State} (hwf : Table.wf none s.fau.flash = true)
    (hspans : ∀ i x, s.flashEntry i = some x → x.spans = s.spansOf x.slot x.field) (tag : Byte) (o : UnplaceOps) :
    Request (.unplace tag (.ops o)) s (unplaceChecks o s) (fun f t =>
      let n := o.slot.toNat
      Answered s t f .empty ∧
      t = { s with
        fli := t.fli
        cst := { s.cst with cells := t.cst.cells }
        itb := { s.itb with slots := t.itb.slots }
        fau := { s.fau with flash := t.fau.flash } } ∧
      (∀ m, t.slot m =
        if m = n then { s.slot n with placements := (s.slot n).placements.eraseIdx o.index.toNat } else s.slot m) ∧
      (∀ i, t.flashEntry i = (s.flashEntry i).map fun x =>
        if x.slot = n then { x with spans := t.spansOf n x.field } else x) ∧
      ∀ p, (s.slot n).placements[o.index.toNat]? = some p →
        ∀ k, (inPlacements s [p] k → ∃ c, inColumn s p c k ∧ t.cell k = blanked (s.style c.style)) ∧
          (¬ inPlacements s [p] k → t.cell k = s.cell k)) := by
  refine request_of_answers (act := unplaceAction o) rfl rfl ?_
  unfold unplaceChecks
  refine .check (fun hbad => ?_) fun hval => ?_
  · unfold unplaceAction upTo?
    simp only [if_neg (of_decide_eq_false hbad)]
  have heq := unplaceAction_eq s.dropHead (of_decide_eq_true hval)
  refine .check (fun hfree => heq.trans (if_neg ?_)) fun hdef => ?_
  · exact fun hd => Bool.noConfusion (hfree.symm.trans ((defined_eq _).symm.trans hd))
  replace heq := heq.trans (if_pos ((defined_eq _).trans hdef))
  refine .check (fun hout => ?_) fun hin => ?_
  · rw [State.slot_dropHead, List.getElem?_eq_none (Nat.not_lt.mp (of_decide_eq_false hout))] at heq
    exact heq
  obtain ⟨p, hp⟩ : ∃ p, (s.slot o.slot.toNat).placements[o.index.toNat]? = some p :=
    ⟨_, List.getElem?_eq_getElem (of_decide_eq_true hin)⟩
  rw [State.slot_dropHead, hp] at heq
  have hdone := removePlacement_done (s := s.dropHead) hwf hspans o.slot.toNat o.index.toNat p
  refine .accepted _ _ heq ⟨answered_accept ?_ _ _, ?_, hdone.slot, hdone.entry, fun q hq k => ?_⟩
  · rw [hdone.frame]
  · rw [finish_accept, hdone.frame]
    rfl
  · obtain rfl : p = q := Option.some.inj (hp.symm.trans hq)
    have hcell := hdone.cell k
    constructor
    · intro hk
      obtain ⟨a, ha⟩ := exists_lastColumn hk
      refine ⟨a.2, inColumn_of_lastColumn ha, hcell.trans ?_⟩
      rw [show lastColumn s.dropHead [p] k = some a from ha]
      rfl
    · intro hk
      refine hcell.trans ?_
      rw [show lastColumn s.dropHead [p] k = none from lastColumn_eq_none.mpr hk]
      rfl

/-- Settles O20: UNPLACE from its action, check by check; an entry's spans are cut where its slot's placements are. -/
theorem unplaceRemoves : Obligations.UnplaceRemoves := fun _ tag o hwf hspans =>
  ⟨unplace_request hwf hspans tag o, fun _ => wrongLength_of_withOps rfl rfl⟩

/-! ## Entries that end one after another -/

theorem order_endFlash {s : State} {i : Nat} (h : (s.flashEntry i).isSome = true) :
    (s.endFlash i).fau.order = s.fau.order.filter fun j => j ≠ i := by
  obtain ⟨x, hx⟩ := Option.isSome_iff_exists.mp h
  unfold State.endFlash
  rw [hx]
  exact List.filter_congr fun j _ => Bool.eq_iff_iff.mpr (by simp)

/-- The entries of different indexes ended: they leave the table and the age order, and the cells of their spans that
name them lose the reference (R106). -/
structure AllEnded (s t : State) (l : List Nat) : Prop where
  frame : SameButFlash s t
  wf : Table.wf .blank t.cst.cells = true
  entry : ∀ j, t.flashEntry j = if j ∈ l then none else s.flashEntry j
  order : t.fau.order = s.fau.order.filter fun j => j ∉ l
  cell : ∀ k, t.cell k =
    if ∃ i ∈ l, (s.cell k).ref = some i ∧ (s.flashEntry i).any (spansHold · k) = true then
      { s.cell k with ref := none }
    else s.cell k

theorem endAll {s : State} (hc : Table.wf .blank s.cst.cells = true) {l : List Nat} (hl : l.Nodup)
    (hused : ∀ i ∈ l, (s.flashEntry i).isSome = true) : AllEnded s (l.foldl State.endFlash s) l := by
  induction l using List.reverseRecOn with
  | nil => exact ⟨.refl s, hc, fun j => by simp, by simp, fun k => by simp⟩
  | append_singleton l i ih =>
    have hnodup := List.nodup_append.mp hl
    have hil : i ∉ l := fun h => hnodup.2.2 i h i (List.mem_singleton_self i) rfl
    have h := ih hnodup.1 fun j hj => hused j (List.mem_append_left _ hj)
    have hi : (l.foldl State.endFlash s).flashEntry i = s.flashEntry i := by rw [h.entry, if_neg hil]
    have hiused := hused i (List.mem_append_right _ (List.mem_singleton_self i))
    rw [List.foldl_append, List.foldl_cons, List.foldl_nil]
    refine ⟨h.frame.trans (State.endFlash_frame ..), wf_cells_endFlash h.wf i, fun j => ?_, ?_, fun k => ?_⟩
    · rw [State.flashEntry_endFlash, h.entry]
      by_cases hj : j = i <;> simp [hj]
    · rw [order_endFlash (hi ▸ hiused), h.order, List.filter_filter]
      exact List.filter_congr fun j _ => by simp [List.mem_append, and_comm]
    · rw [cell_endFlash h.wf, hi, h.cell]
      obtain ⟨x, hx⟩ := Option.isSome_iff_exists.mp hiused
      rw [hx]
      simp only [Option.elim_some, List.mem_append, List.mem_singleton, or_and_right, exists_or, exists_eq_left, hx,
        Option.any_some]
      by_cases hold : ∃ j ∈ l, (s.cell k).ref = some j ∧ (s.flashEntry j).any (spansHold · k) = true
      · rw [if_pos hold, if_pos (Or.inl hold : _ ∨ _ ∧ _)]
        split <;> rfl
      · rw [if_neg hold]
        by_cases hnow : (s.cell k).ref = some i ∧ spansHold x k = true
        · rw [if_pos hnow.2, if_pos (Or.inr hnow : _ ∨ _ ∧ _)]
          exact if_pos hnow.1
        · rw [if_neg (not_or.mpr ⟨hold, hnow⟩)]
          split
          · next hk => exact if_neg fun href => hnow ⟨href, hk⟩
          · rfl

/-! ## The entries of a slot -/

theorem nodup_flashesOf {s : State} (hwf : Table.wf none s.fau.flash = true) (n : Nat) : (s.flashesOf n).Nodup := by
  obtain ⟨hp, -⟩ := (Table.wf_iff _ _).mp hwf
  exact List.pairwise_map.mpr ((hp.filter _).imp fun h => Nat.ne_of_lt h)

theorem mem_flashesOf {s : State} (hwf : Table.wf none s.fau.flash = true) {n i : Nat} :
    i ∈ s.flashesOf n ↔ ∃ x, s.flashEntry i = some x ∧ x.slot = n := by
  unfold State.flashesOf
  rw [List.mem_map]
  constructor
  · rintro ⟨e, he, rfl⟩
    obtain ⟨hmem, hany⟩ := List.mem_filter.mp he
    obtain ⟨x, hx, hslot⟩ := (Option.any_eq_true ..).mp hany
    exact ⟨x, (Table.get_of_mem hwf hmem).trans hx, by simpa using hslot⟩
  · rintro ⟨x, hx, hslot⟩
    exact ⟨(i, some x), List.mem_filter.mpr ⟨State.mem_flash hx, by simpa using hslot⟩, rfl⟩

/-! ## The parts of DROP -/

/-- Entries ended, alerts dropped, cells blanked, the slot emptied: nothing else changes. -/
theorem emptied_frame {s s2 s4 : State} {n : Nat} {as : List AlertRec} (h2 : SameButFlash s s2)
    (h4 : SameButCells (s2.setFau { s2.fau with alerts := as }) s4) :
    s4.setSlot n .empty = { s with
      cst := { s.cst with cells := (s4.setSlot n .empty).cst.cells }
      itb := { s.itb with slots := (s4.setSlot n .empty).itb.slots }
      fau := { (s4.setSlot n .empty).fau with order := s2.fau.order, alerts := as } } := by
  rw [h4, h2]
  rfl

section

variable {s : State} (hflash : Table.wf none s.fau.flash = true) (hcells : Table.wf .blank s.cst.cells = true) (n : Nat)
include hflash hcells

theorem unflashed_ended : AllEnded (s.unqueued n) (s.unflashed n) (s.flashesOf n) :=
  endAll (s := s.unqueued n) hcells (nodup_flashesOf hflash n) fun i hi => by
    obtain ⟨x, hx, -⟩ := (mem_flashesOf hflash).mp hi
    exact Option.isSome_iff_exists.mpr ⟨x, hx⟩

theorem order_unflashed :
    (s.unflashed n).fau.order = s.fau.order.filter fun i => (s.flashEntry i).all fun x => x.slot ≠ n := by
  rw [(unflashed_ended hflash hcells n).order]
  refine List.filter_congr fun i _ => ?_
  cases hx : s.flashEntry i <;> simp [mem_flashesOf hflash, hx]

theorem slot_dropSlot (m : Nat) : (s.dropSlot n).slot m = if m = n then .empty else s.slot m := by
  rw [State.dropSlot_eq, State.slot_setSlot, (s.undrawn_frame n).slot]
  change (if m = n then _ else (s.unflashed n).slot m) = _
  rw [(unflashed_ended hflash hcells n).frame.slot]
  rfl

theorem flashEntry_dropSlot (i : Nat) : (s.dropSlot n).flashEntry i = (s.flashEntry i).filter fun x => x.slot ≠ n := by
  change (s.undrawn n).flashEntry i = _
  rw [State.flashEntry_congr (congrArg Fau.flash (s.undrawn_frame n).fau)]
  refine ((unflashed_ended hflash hcells n).entry i).trans ?_
  change (if i ∈ s.flashesOf n then none else s.flashEntry i) = _
  cases hx : s.flashEntry i with
  | none => simp
  | some x => simp [mem_flashesOf hflash, hx, Option.filter_some]

/-- The references that DROP takes away name entries of the slot. -/
theorem lostReference_dropSlot (k : Nat) :
    lostReference s (s.dropSlot n) k ↔
      ∃ i ∈ s.flashesOf n, (s.cell k).ref = some i ∧ (s.flashEntry i).any (spansHold · k) = true := by
  have hentry := flashEntry_dropSlot hflash hcells n
  constructor
  · rintro ⟨i, x, href, hx, hgone, hsp⟩
    refine ⟨i, (mem_flashesOf hflash).mpr ⟨x, hx, ?_⟩, href, by rw [hx]; exact spansHold_iff.mpr hsp⟩
    by_contra hne
    exact hgone x (by rw [hentry, hx]; simp [Option.filter_some, hne]) ⟨rfl, rfl⟩
  · rintro ⟨i, hi, href, hany⟩
    obtain ⟨x, hx, hslot⟩ := (mem_flashesOf hflash).mp hi
    rw [hx] at hany
    refine ⟨i, x, href, hx, fun y hy => ?_, spansHold_iff.mp hany⟩
    rw [hentry, hx] at hy
    simp [Option.filter_some, hslot] at hy

theorem cells_dropSlot : blankedCells s (s.dropSlot n) (s.slot n).placements := by
  intro k
  have h2 := unflashed_ended hflash hcells n
  have hslot : (s.silenced n).slot n = s.slot n := h2.frame.slot n
  have hlast : lastColumn (s.silenced n) (s.slot n).placements k = lastColumn s (s.slot n).placements k :=
    lastColumn_congr h2.frame.pages (congrArg Itb.layouts h2.frame.itb) ..
  have hcell : (s.dropSlot n).cell k = _ := cell_blankPlacements ((s.silenced n).slot n).placements (s.silenced n) k
  rw [hslot, hlast] at hcell
  constructor
  · intro a ha
    have hstyle : (s.silenced n).style a.2.style = s.style a.2.style := by
      unfold State.style
      rw [show (s.silenced n).gcu = s.gcu from h2.frame.gcu]
    rw [hcell, ha, ← hstyle]
    rfl
  · intro hnone
    rw [hnone] at hcell
    replace hcell := hcell.trans (h2.cell k)
    have hlost := lostReference_dropSlot hflash hcells n k
    exact ⟨fun h => hcell.trans (if_pos (hlost.mp h)), fun h => hcell.trans (if_neg (mt hlost.mpr h))⟩

end

/-! ## DROP -/

/-- What an accepted DROP of slot `n` leaves (R24, R25). -/
structure DropDone (s u : State) (n : Nat) : Prop where
  frame : u = { s with
    cst := { s.cst with cells := u.cst.cells }
    itb := { s.itb with slots := u.itb.slots }
    upq := { s.upq with pool := Table.clearRun s.upq.pool (poolKey n 0) 8, dirty := s.upq.dirty.filter (· != n) }
    fau := { u.fau with
      order := s.fau.order.filter fun i => (s.flashEntry i).all fun x => x.slot ≠ n
      alerts := s.fau.alerts.filter fun a => a.slot != n } }
  slot : ∀ m, u.slot m = if m = n then .empty else s.slot m
  entry : ∀ i, u.flashEntry i = (s.flashEntry i).filter fun x => x.slot ≠ n
  cells : blankedCells s u (s.slot n).placements

theorem dropSlot_done {s : State} (hflash : Table.wf none s.fau.flash = true)
    (hcells : Table.wf .blank s.cst.cells = true) (n : Nat) : DropDone s (s.dropSlot n) n where
  frame := by
    have h2 := (unflashed_ended hflash hcells n).frame
    have hframe := emptied_frame (n := n) h2 (s.undrawn_frame n)
    rw [h2.alerts_eq, order_unflashed hflash hcells n] at hframe
    exact hframe
  slot := slot_dropSlot hflash hcells n
  entry := flashEntry_dropSlot hflash hcells n
  cells := cells_dropSlot hflash hcells n

/-- The pending entries of a slot, counted by field number. -/
theorem pendingOf_length (s : State) (n : Nat) :
    (s.pendingOf n).length = (List.range 8).countP fun i => (s.pendingValue n i).isSome := by
  rw [List.countP_eq_length_filter, ← pendingOf_fields, List.length_map]

/-- A slot's entries leave the pool (R24, R49). -/
theorem get_clearRun_poolKey (pool : Table (Option Int)) (n m : Nat) {i : Nat} (hi : i < 8) :
    Table.get none (Table.clearRun pool (poolKey n 0) 8) (poolKey m i) =
      if m = n then none else Table.get none pool (poolKey m i) := by
  rw [Table.get_clearRun]
  congr 1
  unfold poolKey
  rw [eq_iff_iff]
  omega

theorem drop_request {s : State} (hflash : Table.wf none s.fau.flash = true)
    (hcells : Table.wf .blank s.cst.cells = true) (tag : Byte) (o : DropOps) :
    Request (.drop tag (.ops o)) s [(decide ((s.slot o.slot.toNat).state ≠ .free), .noSlot)] (fun f t =>
      let n := o.slot.toNat
      Answered s t f (.dropped ((List.range 8).countP fun i => (s.pendingValue n i).isSome)
        (s.fau.alerts.countP fun a => a.slot = n)) ∧
      t = { s with
        fli := t.fli
        cst := { s.cst with cells := t.cst.cells }
        itb := { s.itb with slots := t.itb.slots }
        upq := { s.upq with pool := t.upq.pool, dirty := s.upq.dirty.filter fun m => m ≠ n }
        fau := { t.fau with
          order := s.fau.order.filter fun i => ((s.flashEntry i).all fun x => x.slot ≠ n)
          alerts := s.fau.alerts.filter fun a => a.slot ≠ n } } ∧
      (∀ m, t.slot m = if m = n then .empty else s.slot m) ∧
      (∀ m i, i < 8 → t.pendingValue m i = if m = n then none else s.pendingValue m i) ∧
      (∀ i, t.flashEntry i = (s.flashEntry i).filter fun x => x.slot ≠ n) ∧
      blankedCells s t (s.slot n).placements) := by
  refine request_of_answers (act := dropAction o) rfl rfl ?_
  have hdone := dropSlot_done (s := s.dropHead) hflash hcells o.slot.toNat
  have hpool : (s.dropHead.dropSlot o.slot.toNat).upq.pool = Table.clearRun s.upq.pool (poolKey o.slot.toNat 0) 8 := by
    rw [hdone.frame]
    rfl
  refine .check (fun hfree => if_neg ?_) fun hdef => .accepted _ _ (if_pos ?_) ⟨?_, ?_, hdone.slot, fun m i hi => ?_,
    hdone.entry, hdone.cells⟩
  · rw [defined_eq]
    exact fun h => Bool.noConfusion (hfree.symm.trans h)
  · rw [defined_eq]
    exact hdef
  · have hpending : (s.dropHead.pendingOf o.slot.toNat).length = _ := pendingOf_length s o.slot.toNat
    have hcount : (s.fau.alerts.countP fun a => a.slot == o.slot.toNat) =
        s.fau.alerts.countP fun a => a.slot = o.slot.toNat := List.countP_congr fun a _ => by simp
    rw [hpending, State.dropHead_fau, hcount]
    refine answered_accept ?_ _ _
    rw [hdone.frame]
  · have hdirty : (s.upq.dirty.filter (· != o.slot.toNat)) = s.upq.dirty.filter fun m => m ≠ o.slot.toNat :=
      List.filter_congr fun m _ => Bool.eq_iff_iff.mpr (by simp)
    have halerts : (s.fau.alerts.filter fun a => a.slot != o.slot.toNat) =
        s.fau.alerts.filter fun a => a.slot ≠ o.slot.toNat := List.filter_congr fun a _ => Bool.eq_iff_iff.mpr (by simp)
    rw [finish_accept, hdone.frame, ← hdirty, ← halerts]
    rfl
  · change Table.get none (s.dropHead.dropSlot o.slot.toNat).upq.pool (poolKey m i) = _
    rw [hpool]
    exact get_clearRun_poolKey s.upq.pool o.slot.toNat m hi

/-- Settles O17: DROP from its action; the slot's entries end one after another, then its placements are blanked in their
order. -/
theorem dropEmptiesSlot : Obligations.DropEmptiesSlot := fun _ tag o hflash hcells =>
  ⟨drop_request hflash hcells tag o, fun _ => wrongLength_of_withOps rfl rfl⟩

end Sys2Proof.Claims
end

-- ==== Proofs: the cells of a take ====
section
/-!
O43. The parts of a take before its painting end and put flash entries (`TakeKept`): what each of these keeps, a take
keeps. So it leaves the cells outside the slot's columns but for references (`CellsButRefs`), and takes exactly those
whose entry has ended (`TakeRefs`).
-/

namespace Sys2Proof.Machine

/-! ## The parts of a take -/

/-- A take of slot `n` puts entry `e` at index `i`: a new one of the slot on a free index, or the slot's entry that
stands there with another kind and colour (R103, R104, R113). -/
def State.Puts (s : State) (n i : Nat) (e : FlashEntry) : Prop :=
  (s.flashEntry i = none ∧ e.slot = n ∧ e.spans = s.spansOf n e.field) ∨
    ∃ f x, s.fau.find n f = some i ∧ s.flashEntry i = some x ∧ e.slot = x.slot ∧ e.spans = x.spans

/-- The property is kept by the writes that a take of slot `n` makes between storing its values and painting. -/
structure TakeKept (n : Nat) (P : State → Prop) : Prop where
  link : LinkFree P
  limit : ∀ s side l, P s → P (s.setSlot n ((s.slot n).setLimit side l))
  alerts : ∀ s as, P s → P (s.setFau { s.fau with alerts := as })
  ended : ∀ s i, P s → P (s.endFlash i)
  put : ∀ s i e, P s → s.Puts n i e → P (s.putFlash i e)

theorem SameButFlash.spansOf {s t : State} (h : SameButFlash s t) (n : Nat) (f : Field) :
    t.spansOf n f = s.spansOf n f := by
  unfold State.spansOf
  rw [h.slot, funext (h.placementSpan f)]

namespace TakeKept

variable {n : Nat} {P : State → Prop} (hP : TakeKept n P)
include hP

theorem newFlash {s : State} {e : FlashEntry} (hs : P s) (hn : e.slot = n) (hspans : e.spans = s.spansOf n e.field) :
    P (s.newFlash e) := by
  rcases s.newFlash_cases e with ⟨i, -, hfree, heq⟩ | ⟨i, x, -, -, heq⟩ | ⟨-, -, heq⟩ <;> rw [heq]
  · exact hP.put s i e hs (.inl ⟨hfree, hn, hspans⟩)
  · refine hP.put _ i e (hP.ended s i hs) (.inl ⟨by rw [State.flashEntry_endFlash, if_pos rfl], hn, ?_⟩)
    rw [hspans, (State.endFlash_frame s i).spansOf]
  · exact hs

theorem movingStart {s : State} (hs : P s) (f : Field) (k : MoveKind) : P (s.movingStart n f k) := by
  unfold State.movingStart
  simp only
  split
  · split
    · exact hs
    · exact hP.newFlash hs rfl rfl
  · next i hfind =>
    split
    · exact hs
    · next e he =>
      split
      · split
        · exact hP.ended _ _ hs
        · exact hP.put _ _ _ hs (.inr ⟨f, e, hfind, he, rfl, rfl⟩)
      · exact hs

theorem alertFlash {s : State} (hs : P s) : P (s.alertFlash n) := by
  unfold State.alertFlash
  simp only
  split
  · exact hP.newFlash hs rfl rfl
  · next i hfind =>
    split
    · exact hs
    · next e he => exact hP.put _ _ _ hs (.inr ⟨.last, e, hfind, he, rfl, rfl⟩)

theorem checkLimit {s : State} (hs : P s) (v : Int) (side : Side) : P (s.checkLimit n v side) := by
  unfold State.checkLimit
  split
  · split
    · exact hP.link _ _ (State.alertNotice_frame ..).link (hP.alertFlash (hP.alerts _ _ (hP.limit _ _ _ hs)))
    · exact hs
  · exact hs
  · exact hs

/-- A take up to its painting: the limits checked, then the flashes started. -/
theorem started {s : State} (hs : P (s.stored n)) : P (s.started n) := by
  refine List.foldlRecOn _ _ ?_ fun _ ht m _ => hP.movingStart ht m.1 m.2
  unfold State.alertCheckOf
  split
  · exact hP.checkLimit (hP.checkLimit hs _ _) _ _
  · exact hs

end TakeKept

theorem State.started_alerts (s : State) (n : Nat) : SameButAlerts (s.stored n) (s.started n) :=
  (State.alertCheckOf_frame ..).trans (s.started_frame n).alerts

/-- Before the painting the slot's record is the one stored, but for its limits. -/
theorem State.started_slot (s : State) (n : Nat) :
    ((s.slot n).taken (s.pendingOf n) s.cme.frame).SameButLimits ((s.started n).slot n) := by
  have h := ((s.stored n).alertCheckOf_slot n (s.pendingOf n) n).1
  rw [(s.started_frame n).slot]
  unfold State.stored at h ⊢
  rwa [State.slot_setSlot, if_pos rfl] at h

theorem State.started_placements (s : State) (n : Nat) : ((s.started n).slot n).placements = (s.slot n).placements := by
  rw [s.started_slot n]
  exact Slot.taken_placements (s.slot n) (s.pendingOf n) s.cme.frame

theorem State.started_fresh (s : State) (n : Nat) : ((s.started n).slot n).state = .fresh := by
  rw [s.started_slot n]
  rfl

end Sys2Proof.Machine

namespace Sys2Proof.Claims

open Sys2Proof.Machine

/-! ## What a take paints -/

/-- The head of the list fits: the step takes it (R60). -/
theorem exec_commitStep {s : State} {n : Nat} (h : Taking s n) : exec .commitStep s = .next (s.take n) := by
  obtain ⟨hc, hhead, hfit⟩ := h
  change execCommitStep s = _
  unfold execCommitStep State.commitStep
  rw [hc]
  cases hd : s.upq.dirty with
  | nil => simp [hd] at hhead
  | cons m rest =>
    obtain rfl : m = n := by simpa [hd] using hhead
    simp only
    rw [if_pos (pendingOf_length s m ▸ hfit)]

theorem cellsButRefs_takeKept (s : State) (n : Nat) : TakeKept n (CellsButRefs s) where
  link _ _ h hs := hs.congr (by rw [h])
  limit _ _ _ hs := hs.congr rfl
  alerts _ _ hs := hs.congr rfl
  ended _ i hs := hs.endFlash i
  put _ _ _ hs _ := hs.congr rfl

/-- A cell after a take: the formatter's cell of the last of the slot's columns over it, else what stands there before
the painting. -/
theorem cell_take (s : State) (n k : Nat) :
    (s.take n).cell k = (lastColumn s (s.slot n).placements k).elim ((s.started n).cell k) fun a =>
      ((s.take n).columnCells n a.2).getD (k - a.1) .blank := by
  have hframe := State.paintSlot_frame (s.started n) n
  have halerts := s.started_alerts n
  have hlast : lastColumn (s.started n) (s.slot n).placements k = lastColumn s (s.slot n).placements k :=
    lastColumn_congr (by rw [halerts]; rfl) (by rw [halerts]; rfl) ..
  have hcell := cell_paintSlot (s.started n) n k
  rw [s.started_placements, hlast] at hcell
  rw [State.take_eq, hcell]
  simp only [State.columnCells_congr hframe]

theorem take_repaints {s : State} (n : Nat) (hc : Table.wf .blank s.cst.cells = true) (k : Nat) :
    match lastColumn s (s.slot n).placements k with
      | some a => some ((s.take n).cell k) = ((s.take n).columnCells n a.2)[k - a.1]? ∧ ((s.take n).cell k).stale = false
      | none => sameButRef ((s.take n).cell k) (s.cell k) := by
  have hcell := cell_take s n k
  split
  · next a ha =>
    rw [ha] at hcell
    have hcov := (lastColumn_eq_some ha).2
    rw [hcell]
    refine ⟨(getElem?_columnCells hcov).symm, ?_⟩
    change (((s.take n).columnCells n a.2).getD (k - a.1) .blank).stale = false
    rw [stale_columnCells hcov, State.take_eq, (State.paintSlot_frame (s.started n) n).slot, s.started_fresh]
    rfl
  · next hnone =>
    rw [hnone] at hcell
    rw [hcell]
    exact ((cellsButRefs_takeKept s n).started (s := s) ((CellsButRefs.refl hc).congr rfl)).same k

/-! ## The references that a take takes away -/

/-- A span of a slot's placements covers cells of their columns only (R102). -/
theorem inPlacements_of_spansOf {s : State} {n k : Nat} {f : Field} {sp : Span} (hsp : sp ∈ s.spansOf n f)
    (hk : sp.cell ≤ k ∧ k < sp.cell + sp.width) : inPlacements s (s.slot n).placements k := by
  obtain ⟨p, hp, hspan⟩ := List.mem_filterMap.mp hsp
  obtain ⟨pg, cs, c, hpg, hcs, hc, rfl⟩ := placementSpan_eq_some hspan
  simp only [Page.cellIndex, ← Nat.add_assoc] at hk
  exact ⟨p, hp, c, pg, hpg, cs, hcs, hc, hk⟩

/-- The reference of cell `k` in `s` names an entry of a slot other than `n` with the cell in its spans, and `u` does not
hold that entry. -/
def lostToOther (s u : State) (n k : Nat) : Prop :=
  ∃ i x, (s.cell k).ref = some i ∧ s.flashEntry i = some x ∧ x.slot ≠ n ∧ spansHold x k = true ∧ u.flashEntry i ≠ some x

/-- What holds at each part of a take of slot `n` from `s`: entries of other slots stand as they stood, those of the slot
have spans in its columns, and the cells outside them lose references to entries of other slots that are gone. -/
structure TakeRefs (s : State) (n : Nat) (u : State) : Prop where
  canonical : Canonical u
  spans : ∀ f, u.spansOf n f = s.spansOf n f
  entry : ∀ i y, u.flashEntry i = some y →
    (y.slot = n ∧ ∀ k, spansHold y k = true → inPlacements s (s.slot n).placements k) ∨
      (y.slot ≠ n ∧ s.flashEntry i = some y)
  lost : ∀ k, ¬ inPlacements s (s.slot n).placements k → lostToOther s u n k →
    u.cell k = { s.cell k with ref := none }
  kept : ∀ k, ¬ inPlacements s (s.slot n).placements k → ¬ lostToOther s u n k → u.cell k = s.cell k

namespace TakeRefs

variable {s u t : State} {n : Nat}

/-- The same entries and cells, and the same spans of the slot. -/
theorem congr (h : TakeRefs s n u) (hcan : Canonical t) (hspans : ∀ f, t.spansOf n f = u.spansOf n f)
    (hflash : t.fau.flash = u.fau.flash) (hcells : t.cst.cells = u.cst.cells) : TakeRefs s n t := by
  have hget := State.flashEntry_congr hflash
  have hcell := State.cell_congr hcells
  have hlost : ∀ k, lostToOther s t n k ↔ lostToOther s u n k := fun k => by
    unfold lostToOther
    simp only [hget]
  refine ⟨hcan, fun f => (hspans f).trans (h.spans f), fun i y hy => h.entry i y (hget i ▸ hy), fun k hk hl => ?_,
    fun k hk hl => ?_⟩
  · rw [hcell]
    exact h.lost k hk ((hlost k).mp hl)
  · rw [hcell]
    exact h.kept k hk (mt (hlost k).mpr hl)

/-- An index that holds no entry of another slot, before or after, makes no cell lose a reference. -/
theorem lostToOther_iff {i : Nat} (hu : ∀ x, u.flashEntry i = some x → x.slot = n)
    (ht : ∀ x, t.flashEntry i = some x → x.slot = n) (h : ∀ j, j ≠ i → t.flashEntry j = u.flashEntry j) (k : Nat) :
    lostToOther s t n k ↔ lostToOther s u n k := by
  have hsame : ∀ j x, x.slot ≠ n → (t.flashEntry j = some x ↔ u.flashEntry j = some x) := fun j x hx => by
    by_cases hj : j = i
    · subst hj
      exact ⟨fun he => absurd (ht x he) hx, fun he => absurd (hu x he) hx⟩
    · rw [h j hj]
  unfold lostToOther
  constructor
  · rintro ⟨j, x, href, hx, hn, hk, hne⟩
    exact ⟨j, x, href, hx, hn, hk, mt (hsame j x hn).mpr hne⟩
  · rintro ⟨j, x, href, hx, hn, hk, hne⟩
    exact ⟨j, x, href, hx, hn, hk, mt (hsame j x hn).mp hne⟩

/-- An entry of another slot that ends is lost to the cells of its spans that name it, beside those lost before. -/
theorem lostToOther_endFlash {i : Nat} {y : FlashEntry} (hy : u.flashEntry i = some y) (hn : y.slot ≠ n)
    (hs : s.flashEntry i = some y) (k : Nat) :
    lostToOther s (u.endFlash i) n k ↔
      lostToOther s u n k ∨ ((s.cell k).ref = some i ∧ spansHold y k = true) := by
  unfold lostToOther
  simp only [State.flashEntry_endFlash]
  constructor
  · rintro ⟨j, x, href, hx, hxn, hk, hne⟩
    by_cases hj : j = i
    · subst hj
      obtain rfl : y = x := Option.some.inj (hs.symm.trans hx)
      exact .inr ⟨href, hk⟩
    · rw [if_neg hj] at hne
      exact .inl ⟨j, x, href, hx, hxn, hk, hne⟩
  · rintro (⟨j, x, href, hx, hxn, hk, hne⟩ | ⟨href, hk⟩)
    · refine ⟨j, x, href, hx, hxn, hk, ?_⟩
      split
      · exact nofun
      · exact hne
    · exact ⟨i, y, href, hs, hn, hk, by simp⟩

theorem endFlash (h : TakeRefs s n u) (i : Nat) : TakeRefs s n (u.endFlash i) := by
  have hframe := State.endFlash_frame u i
  have hentry : ∀ j y, (u.endFlash i).flashEntry j = some y → u.flashEntry j = some y := fun j y hy => by
    rw [State.flashEntry_endFlash] at hy
    split at hy
    · exact nomatch hy
    · exact hy
  have hspans : ∀ f, (u.endFlash i).spansOf n f = s.spansOf n f := fun f => (hframe.spansOf n f).trans (h.spans f)
  have hcell := fun k => cell_endFlash h.canonical.cells i k
  have hown : (∀ x, u.flashEntry i = some x → x.slot = n) →
      (∀ k, ¬ inPlacements s (s.slot n).placements k → (u.endFlash i).cell k = u.cell k) →
      TakeRefs s n (u.endFlash i) := fun hu hstay => by
    have hlost := lostToOther_iff (s := s) (t := u.endFlash i) hu (fun x hx => hu x (hentry i x hx)) fun j hj => by
      rw [State.flashEntry_endFlash, if_neg hj]
    exact ⟨h.canonical.endFlash i, hspans, fun j y hy => h.entry j y (hentry j y hy),
      fun k hk hl => (hstay k hk).trans (h.lost k hk ((hlost k).mp hl)),
      fun k hk hl => (hstay k hk).trans (h.kept k hk (mt (hlost k).mpr hl))⟩
  cases hy : u.flashEntry i with
  | none => exact hown (fun x hx => (nomatch hy.symm.trans hx)) fun k _ => by rw [hcell, hy]; rfl
  | some y =>
    rcases h.entry i y hy with ⟨hn, hin⟩ | ⟨hn, hs⟩
    · refine hown (fun x hx => Option.some.inj (hy.symm.trans hx) ▸ hn) fun k hk => ?_
      rw [hcell, hy]
      exact if_neg fun hsp => hk (hin k hsp)
    · have hlost := lostToOther_endFlash hy hn hs
      refine ⟨h.canonical.endFlash i, hspans, fun j z hz => h.entry j z (hentry j z hz), fun k hk hl => ?_,
        fun k hk hl => ?_⟩
      · rw [hcell, hy, Option.elim_some]
        by_cases hold : lostToOther s u n k
        · rw [h.lost k hk hold]
          split <;> rfl
        · obtain ⟨href, hsp⟩ := ((hlost k).mp hl).resolve_left hold
          rw [h.kept k hk hold, if_pos hsp]
          exact if_pos href
      · obtain ⟨hold, hnot⟩ := not_or.mp (mt (hlost k).mpr hl)
        rw [hcell, hy, Option.elim_some, h.kept k hk hold]
        split
        · next hsp => exact if_neg fun href => hnot ⟨href, hsp⟩
        · rfl

theorem putFlash (h : TakeRefs s n u) {i : Nat} {e : FlashEntry} (hp : u.Puts n i e) : TakeRefs s n (u.putFlash i e) := by
  have hslot : (∀ x, u.flashEntry i = some x → x.slot = n) ∧ e.slot = n ∧
      ∀ k, spansHold e k = true → inPlacements s (s.slot n).placements k := by
    rcases hp with ⟨hfree, hn, hspans⟩ | ⟨f, x, hfind, hx, hn, hspans⟩
    · refine ⟨fun x hx => (nomatch hfree.symm.trans hx), hn, fun k hk => ?_⟩
      obtain ⟨sp, hsp, hkk⟩ := spansHold_iff.mp hk
      rw [hspans, h.spans] at hsp
      exact inPlacements_of_spansOf hsp hkk
    · obtain ⟨y, hy, hyn, -⟩ := State.find_some h.canonical.flash hfind
      obtain rfl : x = y := Option.some.inj (hx.symm.trans hy)
      refine ⟨fun z hz => Option.some.inj (hx.symm.trans hz) ▸ hyn, hn.trans hyn, fun k hk => ?_⟩
      obtain ⟨-, hin⟩ := (h.entry i x hx).resolve_right fun hno => hno.1 hyn
      exact hin k (by unfold spansHold at hk ⊢; rwa [← hspans])
  obtain ⟨hold, hnew, hin⟩ := hslot
  have hlost := lostToOther_iff (s := s) (t := u.putFlash i e) hold
    (fun x hx => by
      rw [State.flashEntry_putFlash, if_pos rfl] at hx
      exact Option.some.inj hx ▸ hnew)
    fun j hj => by rw [State.flashEntry_putFlash, if_neg hj]
  refine ⟨h.canonical.putFlash i e, h.spans, fun j y hy => ?_, fun k hk hl => h.lost k hk ((hlost k).mp hl),
    fun k hk hl => h.kept k hk (mt (hlost k).mpr hl)⟩
  rw [State.flashEntry_putFlash] at hy
  split at hy
  · obtain rfl := Option.some.inj hy
    exact .inl ⟨hnew, hin⟩
  · exact h.entry j y hy

end TakeRefs

theorem takeRefs_takeKept (s : State) (n : Nat) : TakeKept n (TakeRefs s n) where
  link u t h hu := hu.congr (canonical_linkFree u t h hu.canonical) (fun f => by rw [h]; rfl) (by rw [h]) (by rw [h])
  limit u side l hu := hu.congr (canonical_kept.limit u n side l hu.canonical)
    (fun f => by
      rw [State.spansOf_setSlot, if_pos rfl, Slot.setLimit_placements]
      rfl) rfl rfl
  alerts u as hu := hu.congr (canonical_kept.alerts u as hu.canonical) (fun _ => rfl) rfl rfl
  ended _ i hu := hu.endFlash i
  put _ _ _ hu hp := hu.putFlash hp

/-- Each entry's spans are those of its slot's placements (R102). -/
theorem spans_of_flashLaw {s : State} (h : s.flashLaw) (i : Nat) (x : FlashEntry) (hx : s.flashEntry i = some x) :
    x.spans = s.spansOf x.slot x.field := by
  obtain ⟨-, hentry, -⟩ := h
  obtain ⟨-, -, hspans, -⟩ := (hentry _ (State.mem_flash hx)).2 x rfl
  exact hspans

/-- The values stored, the invariant of the references holds: no entry has ended. -/
theorem takeRefs_stored {s : State} (hc : Canonical s) (hf : s.flashLaw) (n : Nat) : TakeRefs s n (s.stored n) where
  canonical := canonical_kept.taken _ n _ _ (canonical_kept.cme _ _ (canonical_kept.removed s n _ hc))
  spans f := by
    unfold State.stored
    rw [State.spansOf_setSlot, if_pos rfl, Slot.taken_placements]
    rfl
  entry i y hy := by
    by_cases hn : y.slot = n
    · refine .inl ⟨hn, fun k hk => ?_⟩
      obtain ⟨sp, hsp, hkk⟩ := spansHold_iff.mp hk
      rw [spans_of_flashLaw hf i y hy, hn] at hsp
      exact inPlacements_of_spansOf hsp hkk
    · exact .inr ⟨hn, hy⟩
  lost k _ hl := by
    obtain ⟨i, x, -, hx, -, -, hne⟩ := hl
    exact absurd hx hne
  kept _ _ _ := rfl

theorem take_keepsReferences {s : State} (hc : Canonical s) (hf : s.flashLaw) (n : Nat) {k : Nat}
    (hk : ¬ inPlacements s (s.slot n).placements k) : keepsOrLosesReference s (s.take n) k := by
  have hrefs : TakeRefs s n (s.started n) := (takeRefs_takeKept s n).started (takeRefs_stored hc hf n)
  have hcell := cell_take s n k
  rw [lastColumn_eq_none.mpr hk] at hcell
  have hentry : ∀ i, (s.take n).flashEntry i = (s.started n).flashEntry i :=
    State.flashEntry_congr (congrArg Fau.flash (State.paintSlot_frame (s.started n) n).fau)
  have hlost : lostReference s (s.take n) k ↔ lostToOther s (s.started n) n k := by
    unfold lostReference lostToOther
    simp only [hentry]
    constructor
    · rintro ⟨i, x, href, hx, hgone, hsp⟩
      refine ⟨i, x, href, hx, fun hn => hk ?_, spansHold_iff.mpr hsp, fun he => hgone x he ⟨rfl, rfl⟩⟩
      obtain ⟨sp, hmem, hkk⟩ := hsp
      rw [spans_of_flashLaw hf i x hx, hn] at hmem
      exact inPlacements_of_spansOf hmem hkk
    · rintro ⟨i, x, href, hx, hn, hsp, hne⟩
      refine ⟨i, x, href, hx, fun y hy hsame => ?_, spansHold_iff.mp hsp⟩
      rcases hrefs.entry i y hy with ⟨hyn, -⟩ | ⟨-, hys⟩
      · exact hn (hsame.1.symm.trans hyn)
      · exact hne (Option.some.inj (hx.symm.trans hys) ▸ hy)
  exact ⟨fun hl => hcell.trans (hrefs.lost k hk (hlost.mp hl)), fun hl => hcell.trans (hrefs.kept k hk (mt hlost.mpr hl))⟩

/-- Settles O43: the slot's columns by the painting, every other cell by the entries that the take's flashes end. -/
theorem takeRepaints : Obligations.TakeRepaints :=
  ⟨fun s n ht hc => ⟨s.take n, exec_commitStep ht, take_repaints n hc⟩,
    fun s n ht hcan _ hf => ⟨s.take n, exec_commitStep ht, fun _ hk =>
      take_keepsReferences ((canonical_iff s).mp hcan) hf n hk⟩⟩

end Sys2Proof.Claims
end

-- ==== Proofs: slots that age ====
section
/-!
O36. An unheld frame start lets the flash table decay, which takes references from cells only, ages the records, and
paints the slots that turn STALE one after another: a cell holds what the last of them with a column over it paints.
-/

namespace Sys2Proof.Machine

/-! ## The slots that turn STALE -/

theorem mem_insertBy {key : Nat → Nat} {n m : Nat} {l : List Nat} : m ∈ insertBy key n l ↔ m = n ∨ m ∈ l := by
  induction l with
  | nil => exact List.mem_cons
  | cons a l ih =>
    unfold insertBy
    split
    · exact List.mem_cons
    · rw [List.mem_cons, ih, List.mem_cons]
      exact or_left_comm

theorem mem_sortBy {key : Nat → Nat} {m : Nat} {l : List Nat} : m ∈ sortBy key l ↔ m ∈ l := by
  induction l with
  | nil => exact .rfl
  | cons n l ih =>
    unfold sortBy
    rw [mem_insertBy, ih, List.mem_cons]

theorem State.mem_newlyStale {s : State} (hs : Table.wf .empty s.itb.slots = true) {now : FrameNo} {n : Nat} :
    n ∈ s.newlyStale now ↔ (s.slot n).state = .fresh ∧ ((s.slot n).aged now).state = .stale := by
  unfold State.newlyStale
  simp only [List.mem_map, List.mem_filter, Bool.and_eq_true, beq_iff_eq]
  constructor
  · rintro ⟨e, ⟨he, hturns⟩, rfl⟩
    have hget : s.slot e.1 = e.2 := Table.get_of_mem hs he
    rwa [hget]
  · intro hturns
    have hne : s.slot n ≠ .empty := fun he => nomatch hturns.1.symm.trans (congrArg Slot.state he)
    exact ⟨(n, s.slot n), ⟨Table.mem_of_get_ne Slot.empty s.itb.slots n hne, hturns⟩, rfl⟩

theorem State.slot_agedSlots {s : State} (hs : Table.wf .empty s.itb.slots = true) (now : FrameNo) (n : Nat) :
    (s.agedSlots now).slot n = (s.slot n).aged now :=
  Table.get_adjust hs (fun _ r => r.aged now) (fun _ => Slot.aged_empty now) n

/-- A record after ageing, field by field (R107). -/
theorem Slot.aged_eq_ite (r : Slot) (now : FrameNo) :
    r.aged now =
      if (r.state = .fresh ∨ r.state = .stale) ∧ r.lastTake ≠ some now then
        { r with
          age := min (r.age + 1) 65535
          state := if r.state = .fresh ∧ 0 < r.stale ∧ r.age < 65535 ∧ r.age + 1 = r.stale then .stale else r.state }
      else r := by
  have hages : r.ages now = true ↔ (r.state = .fresh ∨ r.state = .stale) ∧ r.lastTake ≠ some now := by
    simp [Slot.ages]
  have hturns : (r.age < Config.countMax ∧ r.older.turnsStale = true) ↔
      r.state = .fresh ∧ 0 < r.stale ∧ r.age < 65535 ∧ r.age + 1 = r.stale := by
    simp only [Slot.turnsStale, Bool.and_eq_true, beq_iff_eq, decide_eq_true_eq]
    simp only [Slot.older, Config.countMax]
    constructor
    · rintro ⟨hlt, ⟨hfresh, hpos⟩, hage⟩
      exact ⟨hfresh, hpos, hlt, by omega⟩
    · rintro ⟨hfresh, hpos, hlt, hage⟩
      exact ⟨hlt, ⟨hfresh, hpos⟩, by omega⟩
  unfold Slot.aged
  simp only [hages, hturns]
  split
  · split <;> rfl
  · rfl

end Sys2Proof.Machine

namespace Sys2Proof.Claims

open Sys2Proof.Machine

/-! ## Slots painted one after another -/

/-- Cell `k` is `c` after the slots of `ns` are painted: the formatter's cell of the last column of one of them over it,
else what stood there, none of them having a column over it. -/
def paintedOver (s : State) (ns : List Nat) (k : Nat) (c : Cell) : Prop :=
  (∃ n ∈ ns, ∃ a, lastColumn s (s.slot n).placements k = some a ∧ c = (s.columnCells n a.2).getD (k - a.1) .blank) ∨
    (∀ n ∈ ns, lastColumn s (s.slot n).placements k = none) ∧ c = s.cell k

theorem paintedOver_foldl (ns : List Nat) (s : State) (k : Nat) :
    paintedOver s ns k ((ns.foldl State.paintSlot s).cell k) := by
  induction ns using List.reverseRecOn with
  | nil => exact .inr ⟨nofun, rfl⟩
  | append_singleton ns n ih =>
    have hframe : SameButCells s (ns.foldl State.paintSlot s) :=
      foldl_rel SameButCells .refl (fun _ _ _ => .trans) State.paintSlot_frame ns s
    have hlast := lastColumn_congr hframe.flash.pages (congrArg Itb.layouts hframe.itb) (s.slot n).placements k
    rw [List.foldl_append, List.foldl_cons, List.foldl_nil, cell_paintSlot, hframe.slot, hlast]
    cases hn : lastColumn s (s.slot n).placements k with
    | some a =>
      refine .inl ⟨n, by simp, a, hn, ?_⟩
      rw [Option.elim_some, State.columnCells_congr hframe]
    | none =>
      rcases ih with ⟨m, hm, a, ha, hc⟩ | ⟨hnone, hc⟩
      · exact .inl ⟨m, List.mem_append_left _ hm, a, ha, hc⟩
      · refine .inr ⟨fun m hm => ?_, hc⟩
        rcases List.mem_append.mp hm with hm | hm
        · exact hnone m hm
        · rwa [List.mem_singleton.mp hm]

/-- Ageing paints the slots that turn STALE, in one order or the other (R108). -/
theorem paintedOver_ageSlots (s : State) (now : FrameNo) (k : Nat) :
    paintedOver (s.agedSlots now) (s.newlyStale now) k ((s.ageSlots now).cell k) := by
  unfold State.ageSlots
  simp only
  split
  · exact paintedOver_foldl ..
  · have h := paintedOver_foldl (sortBy (Config.staleKey s.choices) (s.newlyStale now)) (s.agedSlots now).draw k
    unfold paintedOver at h
    simp only [mem_sortBy] at h
    exact h

/-! ## The frame start -/

theorem atBoundary_of_atFrameEnd {s : State} (h : atFrameEnd s) : s.dtg.atBoundary = true := by
  obtain ⟨hpower, hphase⟩ := h
  rcases hphase with hphase | hphase <;> simp [Dtg.atBoundary, hpower, hphase]

theorem exec_frameStart {s : State} (h : atFrameEnd s) (ha : s.dtg.stagedPower = .awake) :
    exec .frameStart s = .next s.frameStart := by
  change execFrameStart s = _
  unfold execFrameStart
  rw [if_pos (atBoundary_of_atFrameEnd h), ha]

theorem exec_frameStart_asleep {s : State} (h : s.dtg.power = .asleep) : exec .frameStart s = .next s := by
  change execFrameStart s = _
  unfold execFrameStart
  rw [if_neg (by simp [Dtg.atBoundary, h])]

/-- A held frame start ages no slot (R57). -/
theorem frameStart_itb_of_held {s : State} (h : s.held = true) : s.frameStart.itb = s.itb := by
  have hs := s.frameStart_started
  have hslots := hs.slots
  rw [if_pos h] at hslots
  change Itb.mk s.frameStart.itb.slots s.frameStart.itb.layouts = s.itb
  rw [hslots, hs.layouts]

theorem slot_frameStart {s : State} (hs : Table.wf .empty s.itb.slots = true) (h : s.held = false) (n : Nat) :
    s.frameStart.slot n = (s.slot n).aged (s.dtg.counter + 1) := by
  have hslots := s.frameStart_started.slots
  rw [h] at hslots
  exact (State.slot_congr (s := s.agedSlots (s.dtg.counter + 1)) hslots n).trans (State.slot_agedSlots hs _ n)

/-- Decay takes from cells nothing but references (R105, R106). -/
theorem cellsButRefs_decay {s t : State} (h : CellsButRefs s t) : CellsButRefs s t.decay := by
  refine List.foldlRecOn _ _ h fun u hu i _ => ?_
  unfold State.decayEntry
  split
  · exact hu
  · split
    · exact hu
    · split
      · exact hu
      · split
        · exact hu.endFlash i
        · exact hu.congr rfl

/-- A cell after an unheld frame start: the formatter's cell of a slot that turns STALE with a column over it, else, with
no such slot, what stood there but for its reference (R106, R108). -/
theorem cell_frameStart {s : State} (hc : Canonical s) (h : s.held = false) (k : Nat) :
    (∃ n a, (s.slot n).state = .fresh ∧ (s.frameStart.slot n).state = .stale ∧
        lastColumn s (s.slot n).placements k = some a ∧
        s.frameStart.cell k = (s.frameStart.columnCells n a.2).getD (k - a.1) .blank) ∨
      (∀ n, (s.slot n).state = .fresh → (s.frameStart.slot n).state = .stale →
          lastColumn s (s.slot n).placements k = none) ∧
        sameButRef (s.frameStart.cell k) (s.cell k) := by
  obtain ⟨c, heq⟩ := s.frameStart_eq
  rw [h] at heq
  let u := (s.begun false).decay
  have hdecay : SameButFlash (s.begun false) u := State.decay_frame _
  have hslots : u.itb.slots = s.itb.slots := congrArg Itb.slots hdecay.itb
  have hstale : ∀ n, n ∈ u.newlyStale (s.dtg.counter + 1) ↔
      (s.slot n).state = .fresh ∧ (s.frameStart.slot n).state = .stale := fun n => by
    rw [State.mem_newlyStale (hslots ▸ hc.slots), State.slot_congr hslots, slot_frameStart hc.slots h]
  have hlast : ∀ n, lastColumn (u.agedSlots (s.dtg.counter + 1)) ((u.agedSlots (s.dtg.counter + 1)).slot n).placements k =
      lastColumn s (s.slot n).placements k := fun n => by
    rw [State.slot_agedSlots (hslots ▸ hc.slots), Slot.aged_placements, State.slot_congr hslots]
    exact lastColumn_congr hdecay.pages (congrArg Itb.layouts hdecay.itb) ..
  have hrepaint : SameButRepaint (u.agedSlots (s.dtg.counter + 1)) (s.acted false) := State.ageSlots_frame ..
  have hcolumn : ∀ n col, s.frameStart.columnCells n col = (u.agedSlots (s.dtg.counter + 1)).columnCells n col :=
    fun n col => by
      rw [heq, hrepaint]
      rfl
  have hpaint : paintedOver (u.agedSlots (s.dtg.counter + 1)) (u.newlyStale (s.dtg.counter + 1)) k (s.frameStart.cell k) := by
    rw [heq]
    exact paintedOver_ageSlots ..
  rcases hpaint with ⟨n, hn, a, ha, hcell⟩ | ⟨hnone, hcell⟩
  · obtain ⟨hfresh, hturned⟩ := (hstale n).mp hn
    exact .inl ⟨n, a, hfresh, hturned, (hlast n).symm.trans ha, (hcolumn n a.2).symm ▸ hcell⟩
  · refine .inr ⟨fun n hfresh hturned => (hlast n).symm.trans (hnone n ((hstale n).mpr ⟨hfresh, hturned⟩)), ?_⟩
    rw [hcell]
    exact (cellsButRefs_decay (t := s.begun false) ((CellsButRefs.refl hc.cells).congr rfl)).same k

theorem frameStart_ages {s : State} (hc : Canonical s) (h : s.held = false) :
    let t := s.frameStart
    ∀ k, ((∃ n, (s.slot n).state = .fresh ∧ (t.slot n).state = .stale ∧ inPlacements s (s.slot n).placements k) →
        (t.cell k).stale = true) ∧
      (∀ n a, (s.slot n).state = .fresh → (t.slot n).state = .stale → lastColumn s (s.slot n).placements k = some a →
        ∃ m b, (s.slot m).state = .fresh ∧ (t.slot m).state = .stale ∧
          lastColumn s (s.slot m).placements k = some b ∧ some (t.cell k) = (t.columnCells m b.2)[k - b.1]?) ∧
      ((∀ n, (s.slot n).state = .fresh → (t.slot n).state = .stale → ¬ inPlacements s (s.slot n).placements k) →
        sameButRef (t.cell k) (s.cell k)) := by
  intro t k
  rcases cell_frameStart hc h k with ⟨m, b, hfresh, hstale, hlast, hcell⟩ | ⟨hnone, hsame⟩
  · have hcov := (lastColumn_eq_some hlast).2
    refine ⟨fun _ => ?_, fun _ _ _ _ _ => ⟨m, b, hfresh, hstale, hlast, ?_⟩, fun hno => ?_⟩
    · rw [hcell, stale_columnCells hcov, hstale]
      rfl
    · rw [hcell]
      exact (getElem?_columnCells hcov).symm
    · exact nomatch hlast.symm.trans (lastColumn_eq_none.mpr (hno m hfresh hstale))
  · refine ⟨fun ⟨n, hfresh, hstale, hin⟩ => absurd hin (lastColumn_eq_none.mp (hnone n hfresh hstale)),
      fun n a hfresh hstale ha => (nomatch (hnone n hfresh hstale).symm.trans ha), fun _ => hsame⟩

/-- Settles O36: the records by their ageing, the cells by the painting of those that turn STALE after the decay. -/
theorem slotsAge : Obligations.SlotsAge := by
  refine ⟨fun s hend hawake hheld hcan => ?_, fun s hend hawake hheld => ?_, fun s => exec_frameStart_asleep⟩
  · have hc := (canonical_iff s).mp hcan
    refine ⟨s.frameStart, exec_frameStart hend hawake, fun n => ?_, frameStart_ages hc hheld⟩
    rw [slot_frameStart hc.slots hheld]
    exact Slot.aged_eq_ite ..
  · exact ⟨s.frameStart, exec_frameStart hend hawake, frameStart_itb_of_held hheld⟩

end Sys2Proof.Claims
end

-- ==== Proofs: POST ====
section
/-!
O21. POST: its checks in their order, what its pairs leave in the pool and on the dirty list, then the statement.
-/

namespace Sys2Proof.Claims

open Sys2Proof.Machine

/-! ## Checks before an answer -/

/-- The refusal of the first check that fails, else the answer `a`. -/
def checked (checks : List (Bool × Status)) (s : State) (a : Answer) : Answer :=
  (firstFailure checks).elim a fun st => refuse st s

theorem checked_of_some {checks : List (Bool × Status)} {st : Status} (h : firstFailure checks = some st) (s : State)
    (a : Answer) : checked checks s a = refuse st s := by
  rw [checked, h, Option.elim_some]

theorem checked_of_none {checks : List (Bool × Status)} (h : firstFailure checks = none) (s : State) (a : Answer) :
    checked checks s a = a := by
  rw [checked, h, Option.elim_none]

/-- A check that fails refuses; with it passed the rest decide. -/
theorem eq_checked_cons {r a : Answer} {s : State} {c : Bool} {st : Status} {checks : List (Bool × Status)}
    (hfail : c = false → r = refuse st s) (hpass : c = true → r = checked checks s a) :
    r = checked ((c, st) :: checks) s a := by
  cases c with
  | false => exact hfail rfl
  | true => exact hpass rfl

theorem of_firstFailure_eq_none {checks : List (Bool × Status)} (h : firstFailure checks = none) :
    ∀ c ∈ checks, c.1 = true := by
  induction checks with
  | nil => exact nofun
  | cons c checks ih =>
    rw [firstFailure] at h
    split at h
    · next hc => exact List.forall_mem_cons.mpr ⟨hc, ih h⟩
    · exact nomatch h

/-! ## The checks of POST -/

theorem duplicateField_eq_false_iff {ps : List PairOps} :
    duplicateField ps = false ↔ ps.Pairwise fun p q => p.field ≠ q.field := by
  induction ps with
  | nil => simp [duplicateField]
  | cons p ps ih =>
    rw [duplicateField, Bool.or_eq_false_iff, ih, List.pairwise_cons, List.any_eq_false]
    exact and_congr_left' (forall₂_congr fun q _ => by rw [beq_iff_eq, eq_comm])

/-- The range of a field, said of its number (R41). -/
theorem pairInRange_eq {p : PairOps} (h : p.field.toNat ≤ 7) :
    pairInRange p = inRange p.field.toNat p.value.toInt := by
  have hall : ∀ i < 8, ∃ f ∈ allFields, f.num = i := by decide
  obtain ⟨f, -, hf⟩ := hall p.field.toNat (by omega)
  rw [pairInRange, field?_eq_some.mpr hf, ← hf]
  cases f <;> simp [Field.inRange, inRange, Field.num, Bool.and_assoc]

theorem all_pairInRange_eq {ps : List PairOps} (hfield : ∀ p ∈ ps, p.field.toNat ≤ 7) :
    ps.all pairInRange = decide (∀ p ∈ ps, inRange p.field.toNat p.value.toInt) := by
  rw [Bool.eq_iff_iff, List.all_eq_true, decide_eq_true_iff]
  exact forall₂_congr fun p hp => by rw [pairInRange_eq (hfield p hp)]

/-- What POST answers with every check passed: PENDING_FULL for want of room, else its pairs taken (R42 to R45). -/
def postAnswer (o : PostOps) (s : State) : Answer :=
  if 512 - s.upq.pool.length < newPairs o s then ⟨s.pendingFull, some (.pendingFull, .empty)⟩
  else accept (.merged (o.pairs.length - newPairs o s)) (s.postPairs o.slot.toNat o.pairs)

theorem postAnswer_full {o : PostOps} {s : State} (h : 512 - s.upq.pool.length < newPairs o s) :
    postAnswer o s.dropHead = ⟨s.dropHead.pendingFull, some (.pendingFull, .empty)⟩ := if_pos h

theorem postAnswer_room {o : PostOps} {s : State} (h : ¬ 512 - s.upq.pool.length < newPairs o s) :
    postAnswer o s.dropHead =
      accept (.merged (o.pairs.length - newPairs o s)) (s.dropHead.postPairs o.slot.toNat o.pairs) := if_neg h

theorem postAction_eq (s : State) (o : PostOps) :
    postAction (.ops o) s = checked (postChecks o s) s (postAnswer o s) := by
  refine eq_checked_cons (fun hfree => if_neg ?_) fun hdef => (if_pos ?_).trans <|
    eq_checked_cons (fun hbad => if_pos ?_) fun hlen => (if_neg ?_).trans <|
    eq_checked_cons (fun hbad => if_pos ?_) fun hfield => (if_neg ?_).trans <|
    eq_checked_cons (fun hbad => if_pos ?_) fun hdistinct => (if_neg ?_).trans <|
    eq_checked_cons (fun hbad => if_pos ?_) fun hrange => (if_neg ?_).trans rfl
  · rw [defined_eq, hfree]; exact Bool.false_ne_true
  · rw [defined_eq, hdef]
  · have := of_decide_eq_false hbad; omega
  · have := of_decide_eq_true hlen; omega
  · simpa [Nat.succ_le_iff] using hbad
  · simpa [Nat.lt_succ_iff] using hfield
  · rw [← Bool.not_eq_false, duplicateField_eq_false_iff]; exact of_decide_eq_false hbad
  · rw [Bool.not_eq_true, duplicateField_eq_false_iff]; exact of_decide_eq_true hdistinct
  all_goals rw [all_pairInRange_eq (of_decide_eq_true hfield)]
  · rw [hbad]; rfl
  · rw [hrange]; decide

/-! ## The pool after a POST -/

/-- The pool read at a field of the slot: the value of the pair of that field, where the request has one (R44). -/
theorem get_applyPairs_self {n i : Nat} {ps : List PairOps} (hdistinct : ps.Pairwise fun p q => p.field ≠ q.field)
    (pool : Table (Option Int)) :
    Table.get none (applyPairs n pool ps) (poolKey n i) =
      (ps.find? fun p => p.field.toNat = i).elim (Table.get none pool (poolKey n i)) fun p => some p.value.toInt := by
  induction ps generalizing pool with
  | nil => rfl
  | cons p ps ih =>
    obtain ⟨hne, hdistinct⟩ := List.pairwise_cons.mp hdistinct
    refine (ih hdistinct _).trans ?_
    by_cases hp : p.field.toNat = i
    · have hrest : (ps.find? fun q => q.field.toNat = i) = none := List.find?_eq_none.mpr fun q hq hqi =>
        hne q hq (BitVec.toNat_inj.mp (hp.trans (of_decide_eq_true hqi).symm))
      rw [hrest, List.find?_cons_of_pos (by simpa using hp), ← hp]
      exact Table.get_set_self ..
    · rw [List.find?_cons_of_neg (by simpa using hp), Table.get_set, if_neg (by unfold poolKey; omega)]

/-- A POST touches no entry of another slot. -/
theorem get_applyPairs_of_ne {n m i : Nat} (hm : m ≠ n) (hi : i < 8) {ps : List PairOps}
    (hfield : ∀ p ∈ ps, p.field.toNat ≤ 7) (pool : Table (Option Int)) :
    Table.get none (applyPairs n pool ps) (poolKey m i) = Table.get none pool (poolKey m i) := by
  rcases get_applyPairs n pool ps (poolKey m i) with heq | ⟨p, hp, hkey, -⟩
  · exact heq
  · have := hfield p hp
    unfold poolKey at hkey
    omega

/-- A slot has no pending entry where no field number holds a value. -/
theorem pendingOf_isEmpty_iff {s : State} {n : Nat} :
    (s.pendingOf n).isEmpty = true ↔ ∀ i < 8, s.pendingValue n i = none := by
  rw [List.isEmpty_iff, ← List.map_eq_nil_iff, pendingOf_fields, List.filter_eq_nil_iff]
  simp

/-! ## POST -/

theorem exec_post_of_canTake {s : State} (tag : Byte) (o : PostOps) {f : Frame}
    (hf : encodeFrame (.post tag (.ops o)) = some f) (hcan : s.canTake f = true) :
    exec (.post tag (.ops o)) s =
      .next ((checked (postChecks o s) s.dropHead (postAnswer o s.dropHead)).finish f) := by
  obtain rfl := Option.some.inj hf
  exact (State.serve_taken hcan _).trans (by rw [postAction_eq]; rfl)

/-- An accepted POST leaves all but the pool, the dirty list and the slots: a slot with no entry goes to the tail of the
list (R44, R45). -/
theorem postPairs_eq (s : State) (n : Nat) (ps : List PairOps) :
    s.postPairs n ps = { s with
      itb := { s.itb with slots := (s.postPairs n ps).itb.slots }
      upq := { s.upq with
        pool := (s.postPairs n ps).upq.pool
        dirty := if ∀ i < 8, s.pendingValue n i = none then s.upq.dirty ++ [n] else s.upq.dirty } } := by
  have hdirty : (if (s.pendingOf n).isEmpty then s.upq.dirty ++ [n] else s.upq.dirty) =
      if ∀ i < 8, s.pendingValue n i = none then s.upq.dirty ++ [n] else s.upq.dirty :=
    if_congr pendingOf_isEmpty_iff rfl rfl
  rw [← hdirty]
  rfl

/-- The pending values after an accepted POST: a pair's value, else what stood there (R44). -/
theorem pendingValue_postPairs {s : State} {n : Nat} {ps : List PairOps} (hfield : ∀ p ∈ ps, p.field.toNat ≤ 7)
    (hdistinct : ps.Pairwise fun p q => p.field ≠ q.field) (m : Nat) {i : Nat} (hi : i < 8) :
    (s.postPairs n ps).pendingValue m i =
      if m = n then (ps.find? fun p => p.field.toNat = i).elim (s.pendingValue m i) fun p => some p.value.toInt
      else s.pendingValue m i := by
  split
  · next hm =>
    subst hm
    exact get_applyPairs_self hdistinct s.upq.pool
  · next hm => exact get_applyPairs_of_ne hm hi hfield s.upq.pool

/-- A POST with a body of a wrong length that holds a slot number: the slot is looked at first (R40). -/
theorem postTo_none (n : Nat) (s : State) :
    postTo n none s = refuse (if (s.slot n).state = .free then .noSlot else .badLength) s := by
  unfold postTo
  rw [defined_eq]
  by_cases hfree : (s.slot n).state = .free
  · rw [if_neg (by simpa using hfree), if_pos hfree]
  · rw [if_pos (by simpa using hfree), if_neg hfree]

/-- Settles O21: POST from its action, check by check, then by the room in the pool; an accepted one from the pairs
applied. A body of a wrong length by its first two bytes. -/
theorem postQueuesOrIsRefused : Obligations.PostQueuesOrIsRefused := by
  refine ⟨fun s tag o f hf hcan => ?_, fun s tag bytes hcan => (State.serve_taken hcan _).trans (congrArg _ ?_)⟩
  · have hexec := exec_post_of_canTake tag o hf hcan
    intro n
    cases hc : firstFailure (postChecks o s) with
    | some st =>
      rw [checked_of_some hc, finish_refuse_eq] at hexec
      exact hexec
    | none =>
      rw [checked_of_none hc] at hexec
      change ite _ _ _
      split
      · next hfull =>
        rw [postAnswer_full hfull] at hexec
        exact hexec
      · next hroom =>
        rw [postAnswer_room hroom] at hexec
        have hchecks := of_firstFailure_eq_none hc
        simp only [postChecks, List.forall_mem_cons, decide_eq_true_eq] at hchecks
        obtain ⟨-, -, hfield, hdistinct, -⟩ := hchecks
        refine ⟨_, hexec, answered_accept rfl _ _, ?_, fun m i hi => ?_, fun m => Table.get_set ..⟩
        · rw [finish_accept, postPairs_eq]
          rfl
        · refine (pendingValue_postPairs (s := s) hfield hdistinct m hi).trans ?_
          cases o.pairs.find? fun p => p.field.toNat = i <;> rfl
  · rcases bytes with _ | ⟨slot, _ | ⟨count, rest⟩⟩
    · rfl
    · rfl
    · exact (congrArg (Answer.finish · _) (postTo_none slot.toNat s.dropHead)).trans (finish_refuse_eq ..)

end Sys2Proof.Claims
end

-- ==== Proofs: the clean count and the commit that begins ====
section
/-!
O33. A frame start in the Update Queue and the Commit Engine, and what an unheld one leaves of the link.
-/

namespace Sys2Proof.Claims

open Sys2Proof.Machine

/-- The clean frame count at a frame start, the three parts written out (R53, R54). -/
theorem upq_frameStart_eq {u : Upq} (h : u.mark = true → u.clean = 0) :
    u.frameStart = { u with
      mark := false
      clean := if u.mark then u.clean else if u.clean < 64 then u.clean + 1 else 64
      overload := u.overload && (u.mark || decide (u.clean + 1 < 64)) } := by
  unfold Upq.frameStart
  cases hm : u.mark with
  | true => simp [h hm]
  | false =>
    by_cases hlt : u.clean + 1 < 64
    · simp [Config.cleanFrames, hlt, hlt.ne, Nat.lt_of_succ_lt hlt]
    · have hmin : min (u.clean + 1) Config.cleanFrames = Config.cleanFrames := Nat.min_eq_right (Nat.le_of_not_lt hlt)
      have hclean : (if u.clean < 64 then u.clean + 1 else 64) = Config.cleanFrames := by
        change _ = 64
        split <;> omega
      rw [hmin, hclean]
      simp [hlt]

/-- An unheld frame start offers no notice: of the link it moves the start of RDY only (R58, R193). -/
theorem fli_frameStart_of_not_held {s : State} (h : s.held = false) :
    s.frameStart.fli = { s.fli with rdyStart := s.fli.rdyStart.frameStart } := by
  obtain ⟨c, hc⟩ := s.frameStart_eq
  have hage : SameButRepaint _ (s.acted false) := State.ageSlots_frame (s.begun false).decay (s.begun false).dtg.counter
  rw [hc, h, hage, State.decay_frame (s.begun false)]
  rfl

/-- Settles O33: the count and the commit from what a frame start leaves in the Update Queue and the Commit Engine. -/
theorem frameStartCountsAndBeginsCommit : Obligations.FrameStartCountsAndBeginsCommit := by
  refine ⟨fun s hend hawake hmark => ?_, fun s hend hawake hheld => ?_, fun s => exec_frameStart_asleep⟩
  · exact ⟨s.frameStart, exec_frameStart hend hawake, s.frameStart_started.upq.trans (upq_frameStart_eq hmark)⟩
  · have hfli := fli_frameStart_of_not_held hheld
    refine ⟨s.frameStart, exec_frameStart hend hawake, ?_, by rw [hfli], by rw [hfli]⟩
    rw [s.frameStart_started.cme, hheld]
    rfl

end Sys2Proof.Claims
end

-- ==== Proofs: hold and notices ====
section
/-!
O24. HOLD and NOTE from their actions, and when the two holds are on.
-/

namespace Sys2Proof.Claims

open Sys2Proof.Machine

/-- HOLD refuses all but OFF and ON. -/
theorem holdAction_badValue {o : HoldOps} (s : State) (h : ¬ o.value.toNat ≤ 1) :
    holdAction o s = refuse .badValue s := by
  have hnone : onOff? o.value = none := Option.eq_none_iff_forall_ne_some.mpr fun _ hv => h (onOff?_eq_some.mp hv).1
  rw [holdAction, hnone]

theorem holdAction_eq {o : HoldOps} (s : State) (h : o.value.toNat ≤ 1) :
    holdAction o s =
      accept (.holds (decide (o.value = 1)) s.keyHold) (s.setCme { s.cme with linkHold := decide (o.value = 1) }) := by
  rw [holdAction, onOff?_eq_some.mpr ⟨h, rfl⟩]

theorem hold_request (s : State) (tag : Byte) (o : HoldOps) :
    Request (.hold tag (.ops o)) s [(decide (o.value.toNat ≤ 1), .badValue)] (fun f t =>
      Answered s t f (.holds (decide (o.value = 1)) s.keyHold) ∧
      t = { s with fli := t.fli, cme := { s.cme with linkHold := decide (o.value = 1) } }) := by
  refine request_of_answers (act := holdAction o) rfl rfl (.check (fun hbad => ?_) fun hok => ?_)
  · exact holdAction_badValue _ (of_decide_eq_false hbad)
  · refine .accepted _ _ (holdAction_eq s.dropHead (of_decide_eq_true hok)) ⟨?_, rfl⟩
    exact answered_accept (u := s.dropHead.setCme { s.cme with linkHold := decide (o.value = 1) }) rfl _ _

/-- NOTE refuses a mask with a bit beside ALERT, FRAME and LINE. -/
theorem noteAction_badValue {o : NoteOps} (s : State) (h : ¬ o.mask.toNat ≤ 7) :
    noteAction o s = refuse .badValue s := by
  have hnone : NoticeMask.ofByte? o.mask = none := if_neg (by omega)
  rw [noteAction, hnone]

theorem noteAction_eq {o : NoteOps} (s : State) (h : o.mask.toNat ≤ 7) :
    let m : NoticeMask := ⟨o.mask.getLsbD 0, o.mask.getLsbD 1, o.mask.getLsbD 2⟩
    noteAction o s = accept (.mask m) (s.setFli { s.fli with mask := m }) := by
  have hsome : NoticeMask.ofByte? o.mask = some _ := if_pos (Nat.lt_succ_of_le h)
  rw [noteAction, hsome]

theorem note_request (s : State) (tag : Byte) (o : NoteOps) :
    Request (.note tag (.ops o)) s [(decide (o.mask.toNat ≤ 7), .badValue)] (fun f t =>
      let m : NoticeMask := ⟨o.mask.getLsbD 0, o.mask.getLsbD 1, o.mask.getLsbD 2⟩
      t = { s with fli := { linkAfter s s f .ok (.mask m) with mask := m } }) := by
  refine request_of_answers (act := noteAction o) rfl rfl (.check (fun hbad => ?_) fun hok => ?_)
  · exact noteAction_badValue _ (of_decide_eq_false hbad)
  · exact .accepted _ _ (noteAction_eq s.dropHead (of_decide_eq_true hok)) rfl

/-- The key hold is on while some HOLD line stands low (R72). -/
theorem keyHold_iff (s : State) : s.keyHold = true ↔ ∃ l < 4, (s.line l).func = .hold ∧ (s.line l).level = .low := by
  simp [State.keyHold, List.any_eq_true]

/-- Settles O24: the two requests from their actions, the two holds from their definitions. -/
theorem holdAndNoteSet : Obligations.HoldAndNoteSet :=
  ⟨fun s tag o => ⟨hold_request s tag o, fun _ => wrongLength_of_withOps rfl rfl⟩,
    fun s tag o => ⟨note_request s tag o, fun _ => wrongLength_of_withOps rfl rfl⟩,
    fun s => ⟨keyHold_iff s, Bool.or_eq_true_iff⟩⟩

end Sys2Proof.Claims
end

-- ==== Proofs: the end of a commit and the held frame start ====
section
/-!
O34, O38, O39. The FRAME notice as a change of the link, then the events that offer one: the end of a commit at a step
or at the scan start, and the held frame start.
-/

namespace Sys2Proof.Claims

open Sys2Proof.Machine

/-- The link after a FRAME notice is offered where they are enabled (R68). -/
theorem frameNotice_eq (s : State) (overload held : Bool) :
    s.frameNotice overload held = s.setFli (if s.fli.mask.frame then
      offered s.fli (.frame s.cme.frame s.cme.slotsTaken s.cme.entriesTaken s.upq.pool.length s.upq.dirty.length
        overload held)
      else s.fli) := by
  unfold State.frameNotice
  split
  · exact State.offer_eq ..
  · rfl

/-- The end of a commit: IDLE, with its notice (R67). -/
theorem endCommit_eq (s : State) :
    s.endCommit = { s with
      cme := { s.cme with state := .idle }
      fli := if s.fli.mask.frame then
          offered s.fli (.frame s.cme.frame s.cme.slotsTaken s.cme.entriesTaken s.upq.pool.length s.upq.dirty.length
            s.upq.overload false)
        else s.fli } := by
  unfold State.endCommit
  rw [frameNotice_eq]
  rfl

/-- Settles O39: with no head, or a head that does not fit, the step is the end of the commit. -/
theorem commitStepEnds : Obligations.CommitStepEnds := by
  intro s hc hhead
  rw [← endCommit_eq]
  change execCommitStep s = _
  unfold execCommitStep State.commitStep
  rw [hc]
  cases hd : s.upq.dirty with
  | nil => rfl
  | cons n rest =>
    have hfit : ¬ (s.pendingOf n).length ≤ s.cme.budget := by
      rw [pendingOf_length]
      exact Nat.not_le.mpr (hhead n (by rw [hd]; rfl))
    simp only [if_neg hfit]

/-- Settles O38: a running commit ends, an idle Commit Engine stays as it is. -/
theorem scanStartEndsCommit : Obligations.ScanStartEndsCommit := by
  intro s hpower hphase hrestart
  have hdue : s.dtg.scanDue = true := by simp [Dtg.scanDue, hpower, hphase, hrestart]
  change execScanStart s = _
  rw [execScanStart, if_pos hdue]
  unfold State.scanStart
  simp only [State.setDtg_cme]
  cases hc : s.cme.state with
  | committing =>
    simp only [endCommit_eq, true_and]
    rfl
  | idle =>
    have hsame : { s.cme with state := .idle } = s.cme := by rw [← hc]
    simp only [hsame, reduceCtorEq, false_and, if_false]
    rfl

/-! ## The held frame start -/

/-- What a held frame start offers: its notice with OVERLOAD as it stood or as the clean count leaves it (R59, log 7);
all else of it but the count of choices is the begin. -/
theorem heldNotice_eq (s : State) (before after : Bool) :
    ∃ c ov, (ov = before ∨ ov = after) ∧
      s.heldNotice before after = { s.frameNotice ov true with choices := c } := by
  unfold State.heldNotice
  split
  · split
    · exact ⟨_, after, .inr rfl, rfl⟩
    · refine ⟨s.draw.choices, if Config.heldAfterClean s.choices then after else before, ?_, ?_⟩
      · split
        · exact .inr rfl
        · exact .inl rfl
      · rw [frameNotice_eq, frameNotice_eq]
        rfl
  · next hmask => exact ⟨s.choices, before, .inl rfl, by rw [frameNotice_eq, if_neg hmask]; rfl⟩

theorem frameStart_of_held {s : State} (h : s.held = true) :
    ∃ c ov, (ov = s.upq.overload ∨ ov = s.upq.frameStart.overload) ∧
      s.frameStart =
        { (s.begun true).frameNotice ov true with
          choices := c
          sco := s.sco.load (s.dtg.activeFormat != s.dtg.stagedFormat) } := by
  obtain ⟨c, ov, hov, heq⟩ := heldNotice_eq (s.begun true) s.upq.overload s.upq.frameStart.overload
  refine ⟨c, ov, hov, ?_⟩
  have hacted : s.acted true = _ := heq
  have hstart : s.frameStart =
      (s.acted true).setSco ((s.acted true).sco.load (s.dtg.activeFormat != (s.acted true).dtg.activeFormat)) := by
    change (if s.held then (s.acted s.held).setSco _ else _) = _
    rw [h]
    rfl
  rw [hstart, hacted, frameNotice_eq]
  rfl

/-- A notice leaves the start of RDY, and does not read it. -/
theorem offered_rdyStart (f : Fli) (r : RdyStart) (n : OutEntry) :
    offered { f with rdyStart := r } n = { offered f n with rdyStart := r } := by
  unfold offered
  by_cases hroom : f.outQ.length + f.reserved < 48
  · rw [if_pos hroom, if_pos hroom]
  · rw [if_neg hroom, if_neg hroom]

/-- The clean count of a frame start leaves the pool and the list (R53, R57). -/
theorem queue_frameStart (u : Upq) : u.frameStart.pool = u.pool ∧ u.frameStart.dirty = u.dirty := by
  unfold Upq.frameStart
  split <;> exact ⟨rfl, rfl⟩

/-- The link after the begin of a held frame start and its notice: that of before with the notice offered (R59), and
RDY's start (R193). -/
theorem fli_heldNotice (s : State) (ov : Bool) :
    ((s.begun true).frameNotice ov true).fli = { (if s.fli.mask.frame then
        offered s.fli (.frame (s.dtg.counter + 1) 0 0 s.upq.pool.length s.upq.dirty.length ov true)
      else s.fli) with rdyStart := s.fli.rdyStart.frameStart } := by
  have hpool : (s.begun true).upq.pool = s.upq.pool := (queue_frameStart s.upq).1
  have hdirty : (s.begun true).upq.dirty = s.upq.dirty := (queue_frameStart s.upq).2
  have hbegun : (s.begun true).fli = { s.fli with rdyStart := s.fli.rdyStart.frameStart } := rfl
  rw [frameNotice_eq, State.setFli_fli, hbegun, offered_rdyStart, hpool, hdirty]
  exact (apply_ite (fun f : Fli => { f with rdyStart := s.fli.rdyStart.frameStart })
    (s.fli.mask.frame = true) _ _).symm

/-- Settles O34: the held frame start is the begin, the notice and the load. -/
theorem heldFrameStart : Obligations.HeldFrameStart := by
  intro s hend hawake hheld
  refine ⟨s.frameStart, exec_frameStart hend hawake, ?_⟩
  obtain ⟨c, ov, hov, hstart⟩ := frameStart_of_held hheld
  obtain ⟨hpool, hdirty⟩ := queue_frameStart s.upq
  have hfli : s.frameStart.fli = _ := (congrArg State.fli hstart).trans (fli_heldNotice s ov)
  have hupq := s.frameStart_started.upq
  refine ⟨?_, by rw [hupq, hpool], by rw [hupq, hdirty], ?_, frameStart_itb_of_held hheld, ?_, ?_, ?_, ?_, ?_, ov,
    by rwa [hupq], by rw [hfli]⟩
  · rw [s.frameStart_started.cme, hheld]
    rfl
  all_goals rw [hstart, frameNotice_eq]
  · rfl
  · rfl
  · rfl
  · rfl
  · change (match s.sco.staged.crawlPane with | some p => min s.sco.lead p.cols | none => 0) = _
    cases s.sco.staged.crawlPane <;> rfl
  · change (if (s.dtg.activeFormat != s.dtg.stagedFormat) = true then 0 else s.sco.offset) = _
    by_cases hf : s.dtg.stagedFormat = s.dtg.activeFormat
    · simp [hf]
    · simp [hf, Ne.symm hf]

end Sys2Proof.Claims
end

-- ==== Proofs: the values of a take ====
section
/-!
O40. What storing the entries of a slot leaves of each field, then the take: the slot's record, the pool and all that a
take does not touch.
-/

namespace Sys2Proof.Machine

theorem Field.num_inj {f g : Field} : f.num = g.num ↔ f = g :=
  ⟨fun h => Option.some.inj ((Claims.field?_eq_some.mpr rfl).symm.trans (Claims.field?_eq_some.mpr h.symm)),
    congrArg Field.num⟩

/-! ## Values stored one after another -/

/-- A value stored is that of its field, and the others stay (R62). -/
@[simp] theorem Slot.value_store (r : Slot) (e : Field × Int) (f : Field) :
    (r.store e).value f = if f = e.1 then some e.2 else r.value f :=
  (Table.get_set ..).trans (if_congr Field.num_inj rfl rfl)

/-- A price field stored takes its next direction and previous value, and the other fields keep theirs (R62). -/
@[simp] theorem Slot.move_store (r : Slot) (e : Field × Int) (f : Field) :
    (r.store e).move f = if f = e.1 ∧ f.isMoving then (r.move f).next (r.value f) e.2 else r.move f := by
  change Table.get _ (if e.1.isMoving then _ else r.moves) f.num = _
  by_cases hf : f = e.1
  · subst hf
    by_cases hm : e.1.isMoving
    · rw [if_pos hm, if_pos ⟨rfl, hm⟩, Table.get_set_self]
    · rw [if_neg hm, if_neg fun h : e.1 = e.1 ∧ e.1.isMoving => hm h.2]
      rfl
  · rw [if_neg fun h : f = e.1 ∧ f.isMoving => hf h.1]
    split
    · rw [Table.get_set, if_neg (mt Field.num_inj.mp hf)]
      rfl
    · rfl

/-- A field that no entry names keeps value and move. -/
theorem Slot.foldl_store_of_ne {es : List (Field × Int)} {f : Field} (h : ∀ e ∈ es, f ≠ e.1) (r : Slot) :
    (es.foldl Slot.store r).value f = r.value f ∧ (es.foldl Slot.store r).move f = r.move f := by
  induction es generalizing r with
  | nil => exact ⟨rfl, rfl⟩
  | cons e es ih =>
    obtain ⟨he, hes⟩ := List.forall_mem_cons.mp h
    simpa [he] using ih hes (r.store e)

/-- A field that one entry names takes its value, and its move from what it held. -/
theorem Slot.foldl_store_of_mem {es : List (Field × Int)} (hdistinct : es.Pairwise fun a b => a.1 ≠ b.1) {f : Field}
    {v : Int} (h : (f, v) ∈ es) (r : Slot) :
    (es.foldl Slot.store r).value f = some v ∧
      (es.foldl Slot.store r).move f = if f.isMoving then (r.move f).next (r.value f) v else r.move f := by
  induction es generalizing r with
  | nil => simp at h
  | cons e es ih =>
    obtain ⟨hne, hdistinct⟩ := List.pairwise_cons.mp hdistinct
    rcases List.mem_cons.mp h with rfl | h
    · simpa using Slot.foldl_store_of_ne hne (r.store (f, v))
    · have hf : f ≠ e.1 := (hne _ h).symm
      simpa [hf] using ih hdistinct h (r.store e)

/-! ## The entries of a slot -/

/-- A slot has one pending entry for a field at most. -/
theorem State.pendingOf_distinct (s : State) (n : Nat) : (s.pendingOf n).Pairwise fun a b => a.1 ≠ b.1 := by
  have hnodup : ((s.pendingOf n).map fun e => e.1.num).Nodup := by
    rw [Claims.pendingOf_fields]
    exact List.nodup_range.filter _
  exact (List.pairwise_map.mp hnodup).imp fun h => mt (congrArg Field.num) h

/-- The value and the move of a field after the pending entries of slot `n` are stored in `r` (R62). -/
theorem State.stored_field (s : State) (n : Nat) (r : Slot) (f : Field) :
    ((s.pendingOf n).foldl Slot.store r).value f = (s.pendingValue n f.num).or (r.value f) ∧
      ((s.pendingOf n).foldl Slot.store r).move f =
        (s.pendingValue n f.num).elim (r.move f) fun v =>
          if f.isMoving then (r.move f).next (r.value f) v else r.move f := by
  cases hv : s.pendingValue n f.num with
  | some v => exact Slot.foldl_store_of_mem (s.pendingOf_distinct n) (State.mem_pendingOf.mpr hv) r
  | none =>
    refine Slot.foldl_store_of_ne (fun e he hf => ?_) r
    rw [hf, State.mem_pendingOf.mp he] at hv
    exact nomatch hv

/-! ## The record and the pool after a take -/

/-- The record after a take is the one stored, but for its limits. -/
theorem State.take_slot (s : State) (n : Nat) :
    ((s.slot n).taken (s.pendingOf n) s.cme.frame).SameButLimits ((s.take n).slot n) := by
  rw [State.take_eq, (State.paintSlot_frame (s.started n) n).slot]
  exact s.started_slot n

theorem State.take_slot_of_ne (s : State) {n m : Nat} (hm : m ≠ n) : (s.take n).slot m = s.slot m := by
  rw [State.slot_congr (congrArg Itb.slots (s.take_slots n)),
    ((s.stored n).alertCheckOf_slot n (s.pendingOf n) m).2 hm, State.stored, State.slot_setSlot, if_neg hm]
  rfl

/-- The value and the move of a field after a take (R62). -/
theorem State.take_field (s : State) (n : Nat) (f : Field) :
    ((s.take n).slot n).value f = (s.pendingValue n f.num).or ((s.slot n).value f) ∧
      ((s.take n).slot n).move f = (s.pendingValue n f.num).elim ((s.slot n).move f) fun v =>
        if f.isMoving then ((s.slot n).move f).next ((s.slot n).value f) v else (s.slot n).move f := by
  rw [s.take_slot n]
  exact s.stored_field n (s.slot n) f

/-- The slot's entries leave the pool, and no other (R61). -/
theorem State.pendingValue_take (s : State) (n m : Nat) {i : Nat} (hi : i < 8) :
    (s.take n).pendingValue m i = if m = n then none else s.pendingValue m i := by
  have hpool : (s.take n).upq.pool = Table.clearRun s.upq.pool (poolKey n 0) 8 := by
    rw [s.take_frame n]
    rfl
  rw [State.pendingValue, hpool]
  exact Claims.get_clearRun_poolKey _ _ _ hi

end Sys2Proof.Machine

namespace Sys2Proof.Claims

open Sys2Proof.Machine

theorem movedTo_eq_next (m : Move) (old : Option Int) (v : Int) : movedTo m old v = m.next old v := by
  cases old <;> rfl

/-- Settles O40: all that a take leaves from its frame, the record and the pool from the entries taken. -/
theorem takeStoresValues : Obligations.TakeStoresValues := by
  intro s n htake
  refine ⟨s.take n, exec_commitStep htake, ?_, fun m i => s.pendingValue_take n m, fun m => s.take_slot_of_ne, ?_,
    fun f => ?_, fun f hf => ?_, fun f hf => ?_⟩
  · rw [waiting, ← pendingOf_length, s.take_frame n]
    rfl
  · rw [s.take_slot n, Slot.taken_eq]
  · rw [(s.take_field n f).1]
    cases s.pendingValue n f.num <;> rfl
  · have hmoving : f.isMoving = true := List.elem_eq_true_of_mem hf
    rw [(s.take_field n f).2]
    cases s.pendingValue n f.num with
    | none => rfl
    | some v => exact (if_pos hmoving).trans (movedTo_eq_next ..).symm
  · have hmoving : f.isMoving = false := by simpa [Field.isMoving, priceFields] using hf
    rw [(s.take_field n f).2, hmoving]
    cases s.pendingValue n f.num <;> rfl

end Sys2Proof.Claims
end

-- ==== Proofs: the flash table as a function of the index ====
section
/-!
O42, its first part. Starts of one slot in the flash table as a function of the index (`Flashes`): the index that a
start takes, what every start keeps (`Flashes.Form`), and that a take's later starts leave its earlier ones, as these
are the youngest in the age order and enough older indices hold no ALERT entry.
-/

namespace Sys2Proof.Claims

open Sys2Proof.Machine

namespace Flashes

/-! ## The form of the table -/

/-- What the starts of slot `n` keep: the age order names each entry in use once, a slot and field have one entry at
most, the slot's entries have its spans `sp`, its ALERT entry is that of LAST and stands only where it is alarmed, and
`c` indices or more hold no ALERT entry. -/
structure Form (n : Nat) (sp : Field → List Span) (alarmed : Prop) (c : Nat) (u : Flashes) : Prop where
  index : ∀ {i x}, u.entry i = some x → i < 128
  distinct : ∀ {i j x y}, u.entry i = some x → u.entry j = some y → x.slot = y.slot → x.field = y.field → i = j
  nodup : u.order.Nodup
  listed : ∀ {i x}, u.entry i = some x → i ∈ u.order
  spans : ∀ {i x}, u.entry i = some x → x.slot = n → x.spans = sp x.field
  alert : ∀ {i x}, u.entry i = some x → x.slot = n → x.kind = .alert → x.field = .last ∧ alarmed
  spare : ∃ l : Finset Nat, c ≤ l.card ∧ ∀ i ∈ l, i < 128 ∧ ∀ x, u.entry i = some x → x.kind ≠ .alert

/-- The table has no entry of slot `n` and field `f`. -/
def Lacks (u : Flashes) (n : Nat) (f : Field) : Prop := ∀ i x, u.entry i = some x → ¬ (x.slot = n ∧ x.field = f)

/-- The oldest moving entry (R104). -/
def oldest (u : Flashes) : Option Nat :=
  u.order.find? fun i => (u.entry i).any fun y => decide (y.kind ≠ .alert)

/-- The index that a start of slot `n` and field `f` takes: that of its entry, or, with none, a free one, or, with none
free, that of the oldest moving entry (R103, R104). -/
inductive Spot (u : Flashes) (n : Nat) (f : Field) (i : Nat) : Prop where
  | own (y : FlashEntry) (hy : u.entry i = some y) (hn : y.slot = n) (hf : y.field = f)
  | free (hi : i < 128) (hfree : u.entry i = none) (hnew : u.Lacks n f)
  | oldest (hfull : ∀ j < 128, ∃ y, u.entry j = some y) (hold : u.oldest = some i) (hnew : u.Lacks n f)

section

variable {n : Nat} {sp : Field → List Span} {alarmed : Prop} {c : Nat} {u : Flashes}

@[simp] theorem entry_put (u : Flashes) (i : Nat) (x : FlashEntry) (j : Nat) :
    (u.put i x).entry j = if j = i then some x else u.entry j := rfl

@[simp] theorem entry_drop (u : Flashes) (i j : Nat) : (u.drop i).entry j = if j = i then none else u.entry j := rfl

theorem entry_of_oldest {i : Nat} (h : u.oldest = some i) : ∃ y, u.entry i = some y ∧ y.kind ≠ .alert := by
  obtain ⟨y, hy, hk⟩ := (Option.any_eq_true ..).mp (List.find?_some (p := fun i => (u.entry i).any _) h)
  exact ⟨y, hy, of_decide_eq_true hk⟩

/-! ## Finding entries -/

theorem Form.indexOf_eq_some (h : Form n sp alarmed c u) {m i : Nat} {f : Field} :
    u.indexOf m f = some i ↔ ∃ x, u.entry i = some x ∧ x.slot = m ∧ x.field = f := by
  have hfound : ∀ {j}, u.indexOf m f = some j → ∃ x, u.entry j = some x ∧ x.slot = m ∧ x.field = f := fun hj => by
    obtain ⟨x, hx, hxmf⟩ := (Option.any_eq_true ..).mp (List.find?_some (p := fun i => (u.entry i).any _) hj)
    exact ⟨x, hx, of_decide_eq_true hxmf⟩
  refine ⟨hfound, fun ⟨x, hx, hm, hf⟩ => ?_⟩
  cases hj : u.indexOf m f with
  | none =>
    have := List.find?_eq_none.mp hj i (List.mem_range.mpr (h.index hx))
    simp [hx, hm, hf] at this
  | some j =>
    obtain ⟨y, hy, hym, hyf⟩ := hfound hj
    rw [h.distinct hx hy (hm.trans hym.symm) (hf.trans hyf.symm)]

theorem Form.indexOf_eq_none (h : Form n sp alarmed c u) {m : Nat} {f : Field} :
    u.indexOf m f = none ↔ u.Lacks m f := by
  constructor
  · intro hnone i x hx hmf
    exact nomatch hnone.symm.trans (h.indexOf_eq_some.mpr ⟨x, hx, hmf⟩)
  · intro hlacks
    refine Option.eq_none_iff_forall_ne_some.mpr fun i hi => ?_
    obtain ⟨x, hx, hmf⟩ := h.indexOf_eq_some.mp hi
    exact hlacks i x hx hmf

/-- A new entry takes the lowest free index (R104). -/
theorem create_of_free {i : Nat} (hi : ((List.range 128).find? fun i => (u.entry i).isNone) = some i)
    (x : FlashEntry) : u.create x = u.put i x := by
  unfold create
  rw [hi]

/-- With none free a new entry takes the index of the oldest moving one, if there is one (R104). -/
theorem create_of_full (hfull : ((List.range 128).find? fun i => (u.entry i).isNone) = none) (x : FlashEntry) :
    u.create x = u.oldest.elim u fun i => u.put i x := by
  unfold create
  rw [hfull]
  change (match u.oldest with | some i => u.put i x | none => u) = _
  cases u.oldest <;> rfl

/-- With an index to spare a new entry takes a free index or that of the oldest moving entry (R104). -/
theorem Form.create_eq (h : Form n sp alarmed (c + 1) u) {m : Nat} {f : Field} (hnew : u.Lacks m f) (x : FlashEntry) :
    ∃ i, u.Spot m f i ∧ u.create x = u.put i x := by
  cases hfree : (List.range 128).find? fun i => (u.entry i).isNone with
  | some i =>
    have hnone := List.find?_some (p := fun i => (u.entry i).isNone) hfree
    exact ⟨i, .free (List.mem_range.mp (List.mem_of_find?_eq_some hfree)) (Option.isNone_iff_eq_none.mp hnone) hnew,
      create_of_free hfree x⟩
  | none =>
    have hfull : ∀ j < 128, ∃ y, u.entry j = some y := fun j hj => by
      have := List.find?_eq_none.mp hfree j (List.mem_range.mpr hj)
      exact Option.ne_none_iff_exists'.mp (by simpa using this)
    have hcreate := create_of_full hfree x
    cases hold : u.oldest with
    | some i => exact ⟨i, .oldest hfull hold hnew, by rw [hcreate, hold, Option.elim_some]⟩
    | none =>
      obtain ⟨l, hl, hspare⟩ := h.spare
      obtain ⟨j, hj⟩ := Finset.card_pos.mp (Nat.lt_of_lt_of_le (Nat.succ_pos c) hl)
      obtain ⟨hlt, hmoving⟩ := hspare j hj
      obtain ⟨y, hy⟩ := hfull j hlt
      have := List.find?_eq_none.mp hold j (h.listed hy)
      simp [hy, hmoving y hy] at this

/-! ## What a start keeps -/

theorem Spot.lt {m : Nat} {f : Field} {i : Nat} (hs : u.Spot m f i) (h : Form n sp alarmed c u) : i < 128 := by
  cases hs with
  | own y hy => exact h.index hy
  | free hi => exact hi
  | oldest _ hold =>
    obtain ⟨y, hy, -⟩ := entry_of_oldest hold
    exact h.index hy

/-- No other index has an entry of the slot and field of a start. -/
theorem Spot.eq_of_entry {m : Nat} {f : Field} {i j : Nat} {y : FlashEntry} (hs : u.Spot m f i)
    (h : Form n sp alarmed c u) (hy : u.entry j = some y) (hm : y.slot = m) (hf : y.field = f) : j = i := by
  cases hs with
  | own z hz hzm hzf => exact h.distinct hy hz (hm.trans hzm.symm) (hf.trans hzf.symm)
  | free _ _ hnew => exact absurd ⟨hm, hf⟩ (hnew j y hy)
  | oldest _ _ hnew => exact absurd ⟨hm, hf⟩ (hnew j y hy)

/-- A start of the slot keeps the form; an ALERT one may take an index to spare. -/
theorem Form.put {c' : Nat} (h : Form n sp alarmed c u) {i : Nat} {x : FlashEntry} (hs : u.Spot n x.field i)
    (hn : x.slot = n) (hsp : x.spans = sp x.field) (hal : x.kind = .alert → x.field = .last ∧ alarmed)
    (hc : if x.kind = .alert then c' + 1 ≤ c else c' ≤ c) : Form n sp alarmed c' (u.put i x) := by
  have hentry : ∀ {j y}, (u.put i x).entry j = some y → (j = i ∧ y = x) ∨ (j ≠ i ∧ u.entry j = some y) := by
    intro j y hy
    rw [entry_put] at hy
    split at hy
    · next hj => exact .inl ⟨hj, (Option.some.inj hy).symm⟩
    · next hj => exact .inr ⟨hj, hy⟩
  have hother : ∀ {j y}, j ≠ i → u.entry j = some y → y.slot = x.slot → y.field ≠ x.field := fun hj hy hm hf =>
    hj (hs.eq_of_entry h hy (hm.trans hn) hf)
  refine ⟨fun {j y} hy => ?_, fun {j k y z} hy hz hm hf => ?_, ?_, fun {j y} hy => ?_, fun {j y} hy hyn => ?_,
    fun {j y} hy hyn => ?_, ?_⟩
  · rcases hentry hy with ⟨rfl, -⟩ | ⟨-, hy⟩
    · exact hs.lt h
    · exact h.index hy
  · rcases hentry hy with ⟨rfl, rfl⟩ | ⟨hj, hy'⟩ <;> rcases hentry hz with ⟨rfl, rfl⟩ | ⟨hk, hz'⟩
    · rfl
    · exact absurd hf.symm (hother hk hz' hm.symm)
    · exact absurd hf (hother hj hy' hm)
    · exact h.distinct hy' hz' hm hf
  · refine List.nodup_append.mpr ⟨h.nodup.filter _, List.nodup_singleton i, fun a ha b hb hab => ?_⟩
    rw [List.mem_singleton.mp hb] at hab
    exact of_decide_eq_true (List.mem_filter.mp ha).2 hab
  · change j ∈ u.order.filter _ ++ [i]
    rw [List.mem_append, List.mem_singleton]
    rcases hentry hy with ⟨rfl, -⟩ | ⟨hj, hy⟩
    · exact .inr rfl
    · exact .inl (List.mem_filter.mpr ⟨h.listed hy, decide_eq_true hj⟩)
  · rcases hentry hy with ⟨-, rfl⟩ | ⟨-, hy⟩
    · exact hsp
    · exact h.spans hy hyn
  · rcases hentry hy with ⟨-, rfl⟩ | ⟨-, hy⟩
    · exact hal
    · exact h.alert hy hyn
  · obtain ⟨l, hl, hspare⟩ := h.spare
    split at hc
    · refine ⟨l.erase i, ?_, fun j hj => ?_⟩
      · have := l.pred_card_le_card_erase (a := i)
        omega
      · obtain ⟨hji, hj⟩ := Finset.mem_erase.mp hj
        rw [entry_put, if_neg hji]
        exact hspare j hj
    · next hkind =>
      refine ⟨l, hc.trans hl, fun j hj => ⟨(hspare j hj).1, fun y hy => ?_⟩⟩
      rcases hentry hy with ⟨-, rfl⟩ | ⟨-, hy⟩
      · exact hkind
      · exact (hspare j hj).2 y hy

theorem Form.drop (h : Form n sp alarmed c u) (i : Nat) : Form n sp alarmed c (u.drop i) := by
  have hentry : ∀ {j y}, (u.drop i).entry j = some y → j ≠ i ∧ u.entry j = some y := by
    intro j y hy
    rw [entry_drop] at hy
    split at hy
    · exact nomatch hy
    · next hj => exact ⟨hj, hy⟩
  obtain ⟨l, hl, hspare⟩ := h.spare
  exact
    { index := fun hy => h.index (hentry hy).2
      distinct := fun hy hz => h.distinct (hentry hy).2 (hentry hz).2
      nodup := h.nodup.filter _
      listed := fun hy => List.mem_filter.mpr ⟨h.listed (hentry hy).2, decide_eq_true (hentry hy).1⟩
      spans := fun hy => h.spans (hentry hy).2
      alert := fun hy => h.alert (hentry hy).2
      spare := ⟨l, hl, fun j hj => ⟨(hspare j hj).1, fun y hy => (hspare j hj).2 y (hentry hy).2⟩⟩ }

/-! ## The starts of a firing -/

/-- A firing puts the slot's ALERT entry (R113, step 3). -/
theorem Form.alert_eq (h : Form n sp alarmed (c + 1) u) (st : Style) :
    ∃ i, u.Spot n .last i ∧ Flashes.alert st n sp u = u.put i ⟨n, .last, .alert, st.alert, sp .last⟩ := by
  unfold Flashes.alert
  simp only
  split
  · next hnone => exact h.create_eq (h.indexOf_eq_none.mp hnone) _
  · next i hi =>
    obtain ⟨y, hy, hn, hf⟩ := h.indexOf_eq_some.mp hi
    refine ⟨i, .own y hy hn hf, ?_⟩
    rw [hy, Option.elim_some, h.spans hy hn, hf]

/-- Firings keep the form, each with an index to spare. -/
theorem Form.foldl_alert {α : Type} {l : List α} (h : Form n sp alarmed (c + l.length) u) (st : Style)
    (hal : l ≠ [] → alarmed) : Form n sp alarmed c (l.foldl (fun u _ => Flashes.alert st n sp u) u) := by
  induction l generalizing u with
  | nil => exact h
  | cons a l ih =>
    obtain ⟨i, hs, heq⟩ := Form.alert_eq (c := c + l.length) h st
    refine ih ?_ fun _ => hal (List.cons_ne_nil a l)
    beta_reduce
    rw [heq]
    exact h.put hs rfl rfl (fun _ => ⟨rfl, hal (List.cons_ne_nil a l)⟩) le_rfl

/-- The ALERT entry of slot `n` in the colour `colour`. -/
def Alarms (u : Flashes) (n colour : Nat) : Prop :=
  ∃ i x, u.entry i = some x ∧ x.slot = n ∧ x.field = .last ∧ x.kind = .alert ∧ x.colour = colour

theorem Form.alarms_foldl {α : Type} {l : List α} (h : Form n sp alarmed (c + l.length) u) (st : Style)
    (hal : alarmed) (hl : l ≠ []) : (l.foldl (fun u _ => Flashes.alert st n sp u) u).Alarms n st.alert := by
  obtain ⟨l, a, rfl⟩ := (List.eq_nil_or_concat l).resolve_left hl
  rw [List.concat_eq_append, List.length_append] at h
  have hform : Form n sp alarmed (c + 1) (l.foldl (fun u _ => Flashes.alert st n sp u) u) :=
    Form.foldl_alert (by rwa [Nat.add_assoc, Nat.add_comm 1]) st fun _ => hal
  obtain ⟨i, -, heq⟩ := hform.alert_eq st
  rw [List.concat_eq_append, List.foldl_append, List.foldl_cons, List.foldl_nil, heq]
  exact ⟨i, _, if_pos rfl, rfl, rfl, rfl, rfl⟩

/-! ## A moving start -/

/-- The entry that a moving start of field `m.1` makes (R103). -/
def moving (st : Style) (now : FrameNo) (n : Nat) (sp : Field → List Span) (m : Field × MoveKind) : FlashEntry :=
  ⟨n, m.1, .moving m.2 st.f st.f now, st.moveColour m.2, sp m.1⟩

/-- What a moving start does (R103): it leaves an ALERT entry; with length 0 it ends a moving one, if there is one; else
it puts its entry at the index that it takes. -/
inductive MoveStep (u : Flashes) (n : Nat) (f : Field) (len : Nat) (x : FlashEntry) : Flashes → Prop where
  | stands (i : Nat) (y : FlashEntry) (hy : u.entry i = some y) (hn : y.slot = n) (hf : y.field = f)
      (hk : y.kind = .alert) : MoveStep u n f len x u
  | nothing (hlen : len = 0) (hnew : u.Lacks n f) : MoveStep u n f len x u
  | ends (i : Nat) (y : FlashEntry) (hlen : len = 0) (hy : u.entry i = some y) (hn : y.slot = n) (hf : y.field = f)
      (hk : y.kind ≠ .alert) : MoveStep u n f len x (u.drop i)
  | starts (i : Nat) (hlen : len ≠ 0) (hs : u.Spot n f i) (hk : ∀ y, u.entry i = some y → y.kind ≠ .alert) :
      MoveStep u n f len x (u.put i x)

theorem Spot.not_alert {m : Nat} {f : Field} {i : Nat} (hs : u.Spot m f i) (hnew : u.Lacks m f) (y : FlashEntry)
    (hy : u.entry i = some y) : y.kind ≠ .alert := by
  cases hs with
  | own z hz hm hf => exact absurd ⟨hm, hf⟩ (hnew i z hz)
  | free _ hfree => exact nomatch hfree.symm.trans hy
  | oldest _ hold =>
    obtain ⟨z, hz, hk⟩ := entry_of_oldest hold
    exact Option.some.inj (hz.symm.trans hy) ▸ hk

theorem Form.move_step (h : Form n sp alarmed (c + 1) u) (st : Style) (now : FrameNo) (m : Field × MoveKind) :
    MoveStep u n m.1 st.f (moving st now n sp m) (Flashes.move st now n sp u m) := by
  unfold Flashes.move
  simp only
  split
  · next hnone =>
    have hnew := h.indexOf_eq_none.mp hnone
    split
    · next hlen => exact .nothing hlen hnew
    · next hlen =>
      obtain ⟨i, hs, heq⟩ := h.create_eq hnew (moving st now n sp m)
      exact heq ▸ .starts i hlen hs (hs.not_alert hnew)
  · next i hi =>
    obtain ⟨y, hy, hn, hf⟩ := h.indexOf_eq_some.mp hi
    rw [hy, Option.any_some, Option.elim_some, h.spans hy hn, hf]
    split
    · next hk => exact .stands i y hy hn hf (of_decide_eq_true hk)
    · next hk =>
      have hk : y.kind ≠ .alert := fun hal => hk (decide_eq_true hal)
      split
      · next hlen => exact .ends i y hlen hy hn hf hk
      · next hlen => exact .starts i hlen (.own y hy hn hf) fun z hz => Option.some.inj (hy.symm.trans hz) ▸ hk

theorem Form.move (h : Form n sp alarmed (c + 1) u) (st : Style) (now : FrameNo) (m : Field × MoveKind) :
    Form n sp alarmed (c + 1) (Flashes.move st now n sp u m) := by
  have hstep := h.move_step st now m
  generalize Flashes.move st now n sp u m = u' at hstep ⊢
  cases hstep with
  | stands => exact h
  | nothing => exact h
  | ends i => exact h.drop i
  | starts i _ hs => exact h.put hs rfl rfl (fun hk => nomatch hk) le_rfl

theorem Form.foldl_move (h : Form n sp alarmed (c + 1) u) (st : Style) (now : FrameNo) (l : List (Field × MoveKind)) :
    Form n sp alarmed (c + 1) (l.foldl (Flashes.move st now n sp) u) :=
  List.foldlRecOn l _ h fun _ hu m _ => hu.move st now m

/-! ## What later starts leave of earlier ones -/

/-- An entry other than that of the field that starts stays, unless the start takes its index as the oldest. -/
theorem Form.entry_move (h : Form n sp alarmed (c + 1) u) (st : Style) (now : FrameNo) {m : Field × MoveKind} {i : Nat}
    {x : FlashEntry} (hx : u.entry i = some x)
    (hfield : x.kind = .alert ∨
      (x.field ≠ m.1 ∧ ((∀ j < 128, ∃ y, u.entry j = some y) → u.oldest ≠ some i))) :
    (Flashes.move st now n sp u m).entry i = some x := by
  have hstep := h.move_step st now m
  generalize Flashes.move st now n sp u m = u' at hstep ⊢
  cases hstep with
  | stands => exact hx
  | nothing => exact hx
  | ends j y _ hy _ hf hk =>
    rw [entry_drop, if_neg, hx]
    rintro rfl
    obtain rfl := Option.some.inj (hx.symm.trans hy)
    exact hfield.elim hk fun hne => hne.1 hf
  | starts j _ hs hk =>
    rw [entry_put, if_neg, hx]
    rintro rfl
    refine hfield.elim (hk x hx) fun hne => ?_
    cases hs with
    | own y hy _ hf => exact hne.1 (Option.some.inj (hx.symm.trans hy) ▸ hf)
    | free _ hfree => exact nomatch hfree.symm.trans hx
    | oldest hfull hold => exact hne.2 hfull hold

theorem Form.alarms_move (h : Form n sp alarmed (c + 1) u) (st : Style) (now : FrameNo) (m : Field × MoveKind)
    {colour : Nat} (ha : u.Alarms n colour) : (Flashes.move st now n sp u m).Alarms n colour := by
  obtain ⟨i, x, hx, hn, hf, hk, hcolour⟩ := ha
  exact ⟨i, x, h.entry_move st now hx (.inl hk), hn, hf, hk, hcolour⟩

theorem Form.alarms_foldl_move (h : Form n sp alarmed (c + 1) u) (st : Style) (now : FrameNo)
    (l : List (Field × MoveKind)) {colour : Nat} (ha : u.Alarms n colour) :
    (l.foldl (Flashes.move st now n sp) u).Alarms n colour := by
  induction l generalizing u with
  | nil => exact ha
  | cons m l ih => exact ih (h.move st now m) (h.alarms_move st now m ha)

/-- A field that has no entry has none after another field's start. -/
theorem Form.lacks_move (h : Form n sp alarmed (c + 1) u) (st : Style) (now : FrameNo) {m : Field × MoveKind}
    {f : Field} (hf : m.1 ≠ f) (hl : u.Lacks n f) : (Flashes.move st now n sp u m).Lacks n f := by
  have hstep := h.move_step st now m
  generalize Flashes.move st now n sp u m = u' at hstep ⊢
  cases hstep with
  | stands => exact hl
  | nothing => exact hl
  | ends j =>
    intro i x hx
    rw [entry_drop] at hx
    split at hx
    · exact nomatch hx
    · exact hl i x hx
  | starts j =>
    intro i x hx
    rw [entry_put] at hx
    split at hx
    · obtain rfl := Option.some.inj hx
      exact fun hx' => hf hx'.2
    · exact hl i x hx

/-- The entry `x`, with at most `d` indices after its own in the age order. -/
def Young (u : Flashes) (x : FlashEntry) (d : Nat) : Prop :=
  ∃ i old new, u.entry i = some x ∧ u.order = old ++ i :: new ∧ new.length ≤ d

/-- With more indices to spare than stand from its own on in the age order, an entry is not the oldest moving one. -/
theorem Form.oldest_ne (h : Form n sp alarmed c u) {i : Nat} {old new : List Nat} (horder : u.order = old ++ i :: new)
    (hc : new.length + 1 < c) (hfull : ∀ j < 128, ∃ y, u.entry j = some y) : u.oldest ≠ some i := by
  intro hold
  rw [oldest, horder, List.find?_append] at hold
  cases hfirst : old.find? fun j => (u.entry j).any fun y => decide (y.kind ≠ .alert) with
  | some j =>
    rw [hfirst] at hold
    have hnodup := horder ▸ h.nodup
    exact (List.nodup_append.mp hnodup).2.2 j (List.mem_of_find?_eq_some hfirst) i (List.mem_cons_self ..)
      (Option.some.inj hold)
  | none =>
    obtain ⟨l, hl, hspare⟩ := h.spare
    obtain ⟨j, hjl, hjnew⟩ := Finset.exists_mem_notMem_of_card_lt_card (s := (i :: new).toFinset) (t := l)
      ((List.toFinset_card_le _).trans_lt (hc.trans_le hl))
    obtain ⟨hlt, hmoving⟩ := hspare j hjl
    obtain ⟨y, hy⟩ := hfull j hlt
    have hjold : j ∈ old := by
      have := h.listed hy
      rw [horder, List.mem_append] at this
      exact this.resolve_right fun hj => hjnew (List.mem_toFinset.mpr hj)
    have := List.find?_eq_none.mp hfirst j hjold
    simp [hy, hmoving y hy] at this

/-- A start of another field puts at most one index after an entry's own. -/
theorem Form.young_move (h : Form n sp alarmed (c + 1) u) (st : Style) (now : FrameNo) {m : Field × MoveKind}
    {x : FlashEntry} {d : Nat} (hy : u.Young x d) (hf : x.field ≠ m.1) (hd : d < c) :
    (Flashes.move st now n sp u m).Young x (d + 1) := by
  obtain ⟨i, old, new, hx, horder, hnew⟩ := hy
  have hentry := h.entry_move st now hx (.inr ⟨hf, h.oldest_ne horder (by omega)⟩)
  have hstep := h.move_step st now m
  generalize Flashes.move st now n sp u m = u' at hentry hstep ⊢
  have hfilter : ∀ j, j ≠ i → u.order.filter (fun k => k ≠ j) =
      old.filter (fun k => k ≠ j) ++ i :: new.filter (fun k => k ≠ j) := fun j hj => by
    rw [horder, List.filter_append, List.filter_cons_of_pos (by simpa using hj.symm)]
  have hlen : ∀ j, (new.filter fun k => k ≠ j).length ≤ d := fun j => (List.length_filter_le ..).trans hnew
  cases hstep with
  | stands => exact ⟨i, old, new, hx, horder, hnew.trans (Nat.le_succ d)⟩
  | nothing => exact ⟨i, old, new, hx, horder, hnew.trans (Nat.le_succ d)⟩
  | ends j =>
    have hj : j ≠ i := fun hji => by simp [hji] at hentry
    exact ⟨i, _, _, hentry, hfilter j hj, (hlen j).trans (Nat.le_succ d)⟩
  | starts j =>
    have hj : j ≠ i := fun hji => by
      rw [entry_put, if_pos hji.symm] at hentry
      exact hf (Option.some.inj hentry ▸ rfl)
    refine ⟨i, _, new.filter (fun k => k ≠ j) ++ [j], hentry,
      (congrArg (· ++ [j]) (hfilter j hj)).trans (List.append_assoc ..), ?_⟩
    rw [List.length_append]
    exact Nat.succ_le_succ (hlen j)

/-- A start leaves its entry the youngest, or with length 0 none, where no ALERT entry stands in its way (R103). -/
theorem Form.move_spec (h : Form n sp alarmed (c + 1) u) (st : Style) (now : FrameNo) {m : Field × MoveKind}
    (hal : ¬ (m.1 = .last ∧ alarmed)) :
    (st.f = 0 → (Flashes.move st now n sp u m).Lacks n m.1) ∧
      (st.f ≠ 0 → (Flashes.move st now n sp u m).Young (moving st now n sp m) 0) := by
  have hstep := h.move_step st now m
  generalize Flashes.move st now n sp u m = u' at hstep ⊢
  cases hstep with
  | stands i y hy hn hf hk => exact absurd (hf ▸ h.alert hy hn hk) hal
  | nothing hlen hnew => exact ⟨fun _ => hnew, fun hne => absurd hlen hne⟩
  | ends i y hlen hy hn hf =>
    refine ⟨fun _ j z hz hmf => ?_, fun hne => absurd hlen hne⟩
    rw [entry_drop] at hz
    split at hz
    · exact nomatch hz
    · next hj => exact hj (h.distinct hz hy (hmf.1.trans hn.symm) (hmf.2.trans hf.symm))
  | starts i hlen => exact ⟨fun he => absurd he hlen, fun _ => ⟨i, _, [], if_pos rfl, rfl, le_rfl⟩⟩

theorem Form.lacks_foldl (h : Form n sp alarmed (c + 1) u) (st : Style) (now : FrameNo) {l : List (Field × MoveKind)}
    {f : Field} (hf : ∀ m ∈ l, m.1 ≠ f) (hl : u.Lacks n f) : (l.foldl (Flashes.move st now n sp) u).Lacks n f := by
  induction l generalizing u with
  | nil => exact hl
  | cons m l ih =>
    obtain ⟨hm, hrest⟩ := List.forall_mem_cons.mp hf
    exact ih (h.move st now m) hrest (h.lacks_move st now hm hl)

theorem Form.young_foldl (h : Form n sp alarmed (c + 1) u) (st : Style) (now : FrameNo) {l : List (Field × MoveKind)}
    {x : FlashEntry} {d : Nat} (hf : ∀ m ∈ l, m.1 ≠ x.field) (hd : d + l.length ≤ c) (hy : u.Young x d) :
    (l.foldl (Flashes.move st now n sp) u).Young x (d + l.length) := by
  induction l generalizing u d with
  | nil => exact hy
  | cons m l ih =>
    obtain ⟨hm, hrest⟩ := List.forall_mem_cons.mp hf
    rw [List.length_cons] at hd ⊢
    rw [← Nat.add_assoc, Nat.add_right_comm]
    exact ih (h.move st now m) hrest (by omega) (h.young_move st now hy hm.symm (by omega))

/-- After the starts of different fields, fewer than there are indices to spare, each has left its entry, or with length
0 none, where no ALERT entry stood in its way. -/
theorem Form.foldl_move_spec (h : Form n sp alarmed (c + 1) u) (st : Style) (now : FrameNo)
    {l : List (Field × MoveKind)} (hdistinct : l.Pairwise fun a b => a.1 ≠ b.1) (hlen : l.length ≤ c)
    {m : Field × MoveKind} (hm : m ∈ l) (hal : ¬ (m.1 = .last ∧ alarmed)) :
    (st.f = 0 → (l.foldl (Flashes.move st now n sp) u).Lacks n m.1) ∧
      (st.f ≠ 0 → ∃ i, (l.foldl (Flashes.move st now n sp) u).entry i = some (moving st now n sp m)) := by
  obtain ⟨pre, post, rfl⟩ := List.append_of_mem hm
  have hpost : ∀ k ∈ post, k.1 ≠ m.1 := fun k hk =>
    ((List.pairwise_cons.mp (List.pairwise_append.mp hdistinct).2.1).1 k hk).symm
  rw [List.length_append, List.length_cons] at hlen
  rw [List.foldl_append, List.foldl_cons]
  have hpre := h.foldl_move st now pre
  obtain ⟨hzero, hpos⟩ := hpre.move_spec st now hal
  refine ⟨fun hst => (hpre.move st now m).lacks_foldl st now hpost (hzero hst), fun hst => ?_⟩
  obtain ⟨i, -, -, hi, -, -⟩ := (hpre.move st now m).young_foldl st now hpost (by omega) (hpos hst)
  exact ⟨i, hi⟩

end

end Flashes

end Sys2Proof.Claims
end

-- ==== Proofs: the flashes of a take ====
section
/-!
O42. The flash table of a state as a function of the index: each start of the model is the start of `Flashes`, so a take
leaves what its starts make, and the laws give the form from which they begin.
-/

namespace Sys2Proof.Claims

open Sys2Proof.Machine

/-- The flash table of a state as a function of the index, with the age order. -/
def tableOf (t : State) : Flashes := ⟨t.flashEntry, t.fau.order⟩

theorem tableOf_congr {s t : State} (hf : t.fau.flash = s.fau.flash) (ho : t.fau.order = s.fau.order) :
    tableOf t = tableOf s := by
  rw [tableOf, tableOf, funext (State.flashEntry_congr hf), ho]

/-! ## The writes of the table -/

theorem tableOf_putFlash (t : State) (i : Nat) (x : FlashEntry) : tableOf (t.putFlash i x) = (tableOf t).put i x := by
  have horder : t.fau.order.filter (· != i) = t.fau.order.filter fun j => j ≠ i :=
    List.filter_congr fun j _ => Bool.eq_iff_iff.mpr (by simp)
  rw [tableOf, funext (State.flashEntry_putFlash t i x)]
  exact congrArg (Flashes.mk _) (congrArg (· ++ [i]) horder)

theorem tableOf_endFlash {t : State} {i : Nat} (h : (t.flashEntry i).isSome = true) :
    tableOf (t.endFlash i) = (tableOf t).drop i := by
  rw [tableOf, funext (State.flashEntry_endFlash t i), order_endFlash h]
  rfl

/-- An entry put over one just ended is put over it. -/
theorem Flashes.put_drop (u : Flashes) (i : Nat) (x : FlashEntry) : (u.drop i).put i x = u.put i x := by
  have hentry : ∀ j, ((u.drop i).put i x).entry j = (u.put i x).entry j := fun j => by
    simp only [Flashes.entry_put, Flashes.entry_drop]
    split <;> rfl
  have horder : (u.order.filter fun j => j ≠ i).filter (fun j => j ≠ i) = u.order.filter fun j => j ≠ i := by
    rw [List.filter_filter]
    exact List.filter_congr fun j _ => Bool.and_self _
  exact congrArg₂ Flashes.mk (funext hentry) (congrArg (· ++ [i]) horder)

/-- A new entry of the model is one of the table (R104). -/
theorem tableOf_newFlash (t : State) (x : FlashEntry) : tableOf (t.newFlash x) = (tableOf t).create x := by
  have hmoving : (fun i => (t.flashEntry i).any FlashEntry.isMoving) =
      fun i => (t.flashEntry i).any fun y => decide (y.kind ≠ .alert) := funext fun i =>
    congrArg (Option.any · (t.flashEntry i)) (funext fun y => Bool.eq_iff_iff.mpr
      (FlashEntry.isMoving_iff.trans decide_eq_true_iff.symm))
  have hold : t.oldestMoving = (tableOf t).oldest := congrArg (List.find? · t.fau.order) hmoving
  unfold State.newFlash
  split
  · next i hi => exact (tableOf_putFlash t i x).trans (Flashes.create_of_free (u := tableOf t) hi x).symm
  · next hfull =>
    rw [Flashes.create_of_full (u := tableOf t) hfull, ← hold]
    split
    · next i hi =>
      obtain ⟨y, hy, -⟩ := Flashes.entry_of_oldest (hold ▸ hi)
      rw [hi, Option.elim_some, tableOf_putFlash, tableOf_endFlash (Option.isSome_iff_exists.mpr ⟨y, hy⟩),
        Flashes.put_drop]
    · next hi => rw [hi, Option.elim_none]

section

variable {t : State} (hwf : Table.wf none t.fau.flash = true) {n c : Nat} {sp : Field → List Span} {alarmed : Prop}
  (h : Flashes.Form n sp alarmed c (tableOf t))
include hwf h

theorem find_eq_indexOf (m : Nat) (f : Field) : t.fau.find m f = (tableOf t).indexOf m f := by
  cases hfind : t.fau.find m f with
  | none => exact (h.indexOf_eq_none.mpr fun i x hx hmf => State.find_none hfind i x hx hmf.1 hmf.2).symm
  | some i => exact (h.indexOf_eq_some.mpr (State.find_some hwf hfind)).symm

/-- A moving start of the model is one of the table (R103). -/
theorem tableOf_movingStart (m : Field × MoveKind) :
    tableOf (t.movingStart n m.1 m.2) =
      Flashes.move (t.style (t.slot n).flashStyle) t.cme.frame n (t.spansOf n) (tableOf t) m := by
  unfold State.movingStart Flashes.move
  simp only [find_eq_indexOf hwf h]
  split
  · by_cases hlen : (t.style (t.slot n).flashStyle).f = 0
    · rw [if_pos hlen, if_pos hlen]
    · rw [if_neg hlen, if_neg hlen]
      exact tableOf_newFlash ..
  · next i hi =>
    obtain ⟨y, hy, hn, hf⟩ := h.indexOf_eq_some.mp hi
    have hy' : t.flashEntry i = some y := hy
    rw [hy', hy]
    simp only [Option.any_some, Option.elim_some]
    by_cases hk : y.kind = .alert
    · rw [if_neg (fun hm => FlashEntry.isMoving_iff.mp hm hk), if_pos (decide_eq_true hk)]
    · have hk' : ¬ decide (y.kind = .alert) = true := by simpa using hk
      rw [if_pos (FlashEntry.isMoving_iff.mpr hk), if_neg hk']
      by_cases hlen : (t.style (t.slot n).flashStyle).f = 0
      · rw [if_pos hlen, if_pos hlen, tableOf_endFlash (Option.isSome_iff_exists.mpr ⟨y, hy⟩)]
      · rw [if_neg hlen, if_neg hlen, tableOf_putFlash, ← hn, ← hf]
        rfl

/-- The LAST entry made ALERT in the model is so in the table (R113, step 3). -/
theorem tableOf_alertFlash :
    tableOf (t.alertFlash n) =
      Flashes.alert (t.style (t.slot n).flashStyle) n (t.spansOf n) (tableOf t) := by
  unfold State.alertFlash Flashes.alert
  simp only [find_eq_indexOf hwf h]
  split
  · exact tableOf_newFlash ..
  · next i hi =>
    obtain ⟨y, hy, hn, hf⟩ := h.indexOf_eq_some.mp hi
    have hy' : t.flashEntry i = some y := hy
    rw [hy', hy]
    simp only [Option.elim_some]
    rw [tableOf_putFlash, ← hn, ← hf]

end

/-! ## What the starts of a take read -/

/-- In `t` the starts of slot `n` read the flash style, the spans and the commit frame that they read in `s`. -/
structure TakeView (s : State) (n : Nat) (t : State) : Prop where
  canonical : Canonical t
  style : t.style (t.slot n).flashStyle = s.style (s.slot n).flashStyle
  spans : t.spansOf n = s.spansOf n
  frame : t.cme.frame = s.cme.frame

theorem TakeView.flash {s t u : State} {n : Nat} (h : TakeView s n t) (hf : SameButFlash t u) (hc : Canonical u) :
    TakeView s n u where
  canonical := hc
  style := by
    rw [hf.slot, ← h.style, State.style, hf.gcu]
    rfl
  spans := (funext (hf.spansOf n)).trans h.spans
  frame := by
    rw [hf]
    exact h.frame

theorem takeView_takeKept (s : State) (n : Nat) : TakeKept n (TakeView s n) where
  link t u hl h :=
    ⟨canonical_linkFree t u hl h.canonical, by rw [hl]; exact h.style, by rw [hl]; exact h.spans,
      by rw [hl]; exact h.frame⟩
  limit t side l h :=
    { canonical := canonical_kept.limit t n side l h.canonical
      style := by
        rw [State.slot_setSlot, if_pos rfl, Slot.setLimit_eq]
        exact h.style
      spans := by
        rw [← h.spans]
        funext f
        rw [State.spansOf_setSlot, if_pos rfl, Slot.setLimit_placements]
        rfl
      frame := h.frame }
  alerts t as h := ⟨canonical_kept.alerts t as h.canonical, h.style, h.spans, h.frame⟩
  ended t i h := h.flash (State.endFlash_frame t i) (h.canonical.endFlash i)
  put t i e h _ := h.flash (State.putFlash_frame t i e) (h.canonical.putFlash i e)

theorem takeView_stored {s : State} (hc : Canonical s) (n : Nat) : TakeView s n (s.stored n) where
  canonical := canonical_kept.taken _ n _ _ (canonical_kept.cme _ _ (canonical_kept.removed s n _ hc))
  style := by
    rw [State.stored, State.slot_setSlot, if_pos rfl, Slot.taken_eq]
    rfl
  spans := by
    funext f
    rw [State.stored, State.spansOf_setSlot, if_pos rfl, Slot.taken_placements]
    rfl
  frame := rfl

/-! ## The alert check of a take -/

/-- The limit of one side that fires at a LAST of `v`, with its level (R113). -/
def firingOn (r : Slot) (v : Int) (side : Side) : List (Side × Int) :=
  match r.limit side with
  | .armed l => if side.reached l v then [(side, l)] else []
  | .disarmed => []
  | .fired _ => []

theorem firing_eq (r : Slot) (v : Int) : firing r v = firingOn r v .high ++ firingOn r v .low := by
  unfold firing firingOn
  congr 1
  · cases hl : r.high with
    | armed l => simp [Slot.limit, hl, Side.reached]
    | disarmed => simp [Slot.limit, hl]
    | fired l => simp [Slot.limit, hl]
  · cases hl : r.low with
    | armed l => simp [Slot.limit, hl, Side.reached]
    | disarmed => simp [Slot.limit, hl]
    | fired l => simp [Slot.limit, hl]

theorem firingOn_length (r : Slot) (v : Int) (side : Side) : (firingOn r v side).length ≤ 1 := by
  unfold firingOn
  split
  · split <;> simp
  · simp
  · simp

section

variable {s t : State} {n c : Nat} {alarmed : Prop} (hview : TakeView s n t)
  (h : Flashes.Form n (s.spansOf n) alarmed c (tableOf t))
include hview h

/-- One limit of the alert check starts the flash of its firing (R113). -/
theorem tableOf_checkLimit {v : Int} {side : Side} (hlim : (t.slot n).limit side = (s.slot n).limit side) :
    tableOf (t.checkLimit n v side) = (firingOn (s.slot n) v side).foldl
      (fun u _ => Flashes.alert (s.style (s.slot n).flashStyle) n (s.spansOf n) u) (tableOf t) := by
  unfold State.checkLimit firingOn
  rw [hlim]
  cases (s.slot n).limit side with
  | disarmed => rfl
  | fired l => rfl
  | armed l =>
    simp only
    split
    · let t1 := t.setSlot n ((t.slot n).setLimit side (.fired l))
      let t2 := t1.setFau { t1.fau with alerts := t1.fau.alerts ++ [⟨n, side, l, v, t.cme.frame⟩] }
      have hview2 : TakeView s n t2 :=
        (takeView_takeKept s n).alerts t1 _ ((takeView_takeKept s n).limit t side _ hview)
      have hnotice : tableOf (t.fire n side l v) = tableOf (t2.alertFlash n) := by
        change tableOf ((t2.alertFlash n).alertNotice .fired _) = _
        rw [State.alertNotice_frame (t2.alertFlash n)]
        rfl
      rw [hnotice, tableOf_alertFlash (t := t2) hview2.canonical.flash h, hview2.style, hview2.spans]
      rfl
    · rfl

end

/-- A limit that is looked at leaves the other one. -/
theorem limit_checkLimit_of_ne (t : State) (n : Nat) (v : Int) {side side' : Side} (h : side' ≠ side) :
    ((t.checkLimit n v side).slot n).limit side' = (t.slot n).limit side' := by
  rcases t.checkLimit_slots n v side with hslots | ⟨level, hslots⟩ <;> rw [State.slot_congr hslots]
  rw [State.limit_setLimit, if_neg fun hs => h hs.2]

/-- The alert check starts the flashes of its firings, HIGH first (R64, R113). -/
theorem tableOf_alertCheck {s t : State} {n c : Nat} {alarmed : Prop} {v : Int} (hview : TakeView s n t)
    (h : Flashes.Form n (s.spansOf n) alarmed (c + (firing (s.slot n) v).length) (tableOf t))
    (hlim : ∀ side, (t.slot n).limit side = (s.slot n).limit side) (hal : firing (s.slot n) v ≠ [] → alarmed) :
    tableOf (t.alertCheck n v) = (firing (s.slot n) v).foldl
      (fun u _ => Flashes.alert (s.style (s.slot n).flashStyle) n (s.spansOf n) u) (tableOf t) := by
  have hhigh := tableOf_checkLimit hview h (v := v) (hlim .high)
  have hlow : ((t.checkLimit n v .high).slot n).limit .low = (s.slot n).limit .low :=
    (limit_checkLimit_of_ne t n v (by decide)).trans (hlim .low)
  have hview1 : TakeView s n (t.checkLimit n v .high) := (takeView_takeKept s n).checkLimit hview v .high
  rw [firing_eq, List.length_append, Nat.add_comm (firingOn _ _ _).length, ← Nat.add_assoc] at h
  rw [firing_eq] at hal
  have hform1 : Flashes.Form n (s.spansOf n) alarmed (c + (firingOn (s.slot n) v .low).length)
      (tableOf (t.checkLimit n v .high)) := by
    rw [hhigh]
    exact h.foldl_alert _ fun hne => hal (List.append_ne_nil_of_left_ne_nil hne _)
  rw [State.alertCheck, tableOf_checkLimit hview1 hform1 hlow, hhigh, firing_eq, List.foldl_append]

/-- The moving starts of a take are those of the table (R64, R103). -/
theorem tableOf_movingStarts {s : State} {n c : Nat} {alarmed : Prop} (l : List (Field × MoveKind)) {t : State}
    (hview : TakeView s n t) (h : Flashes.Form n (s.spansOf n) alarmed (c + 1) (tableOf t)) :
    tableOf (l.foldl (fun t m => t.movingStart n m.1 m.2) t) =
      l.foldl (Flashes.move (s.style (s.slot n).flashStyle) s.cme.frame n (s.spansOf n)) (tableOf t) := by
  induction l generalizing t with
  | nil => rfl
  | cons m l ih =>
    have hmove := tableOf_movingStart hview.canonical.flash h m
    rw [hview.style, hview.frame, hview.spans] at hmove
    rw [List.foldl_cons, List.foldl_cons, ← hmove]
    exact ih ((takeView_takeKept s n).movingStart hview m.1 m.2) (hmove ▸ h.move _ _ m)

/-! ## The starts of a take -/

/-- The limits that fire at a take of slot `n` (R64). -/
def firesOf (s : State) (n : Nat) : List (Side × Int) := (s.pendingValue n 2).elim [] fun v => firing (s.slot n) v

/-- The moving starts of a take of slot `n`, in field order (R64). -/
def movesOf (s : State) (n : Nat) : List (Field × MoveKind) :=
  [Field.bid, .ask, .last].filterMap fun f => (moveOf s n f).map fun k => (f, k)

/-- A take finds its new LAST among the pending entries (R64). -/
theorem find_last_pendingOf (s : State) (n : Nat) :
    (s.pendingOf n).find? (fun e => e.1 == .last) = (s.pendingValue n 2).map fun v => (Field.last, v) := by
  cases hfind : (s.pendingOf n).find? fun e => e.1 == .last with
  | some e =>
    have hlast : e.1 = .last := by simpa using List.find?_some hfind
    have hvalue := State.mem_pendingOf.mp (List.mem_of_find?_eq_some hfind)
    rw [hlast] at hvalue
    rw [show s.pendingValue n 2 = some e.2 from hvalue, Option.map_some, ← hlast]
  | none =>
    cases hvalue : s.pendingValue n 2 with
    | none => rfl
    | some v =>
      have hmem : (Field.last, v) ∈ s.pendingOf n := State.mem_pendingOf.mpr hvalue
      exact absurd (List.find?_eq_none.mp hfind _ hmem) (by simp)

theorem moved_pendingOf (s : State) (n : Nat) : (s.slot n).moved (s.pendingOf n) = movesOf s n := by
  have hfield : ∀ f ∈ allFields, ((s.pendingValue n f.num).map fun v => (f, v)).bind (fun e : Field × Int =>
      if e.1.isMoving then
        match (s.slot n).value e.1 with
        | some w => if w < e.2 then some (e.1, MoveKind.up) else if e.2 < w then some (e.1, .down) else none
        | none => none
      else none) = if f.isMoving then (moveOf s n f).map fun k => (f, k) else none := by
    intro f _
    unfold moveOf
    cases s.pendingValue n f.num with
    | none => cases (s.slot n).value f <;> simp
    | some v =>
      simp only [Option.map_some, Option.bind_some]
      refine if_congr Iff.rfl ?_ rfl
      cases (s.slot n).value f with
      | none => rfl
      | some w =>
        simp only
        split_ifs <;> rfl
  have hall : ∀ g : Field → Option (Field × MoveKind),
      (allFields.filterMap fun f => if f.isMoving then g f else none) = [Field.bid, .ask, .last].filterMap g :=
    fun _ => rfl
  unfold Slot.moved State.pendingOf
  rw [List.filterMap_filterMap]
  exact (List.filterMap_congr hfield).trans (hall _)

/-- The ALERT entry of slot `n` may stand: a limit fires, or one is FIRED (R113). -/
def Alarmed (s : State) (n : Nat) : Prop :=
  firesOf s n ≠ [] ∨ (s.slot n).high.isFired = true ∨ (s.slot n).low.isFired = true

theorem firesOf_length (s : State) (n : Nat) : (firesOf s n).length ≤ 2 := by
  unfold firesOf
  cases s.pendingValue n 2 with
  | none => exact Nat.zero_le 2
  | some v =>
    rw [Option.elim_some, firing_eq, List.length_append]
    exact Nat.add_le_add (firingOn_length ..) (firingOn_length ..)

/-- The table after the starts of a take of slot `n`. -/
def startedTable (s : State) (n : Nat) : Flashes :=
  (movesOf s n).foldl (Flashes.move (s.style (s.slot n).flashStyle) s.cme.frame n (s.spansOf n))
    ((firesOf s n).foldl (fun u _ => Flashes.alert (s.style (s.slot n).flashStyle) n (s.spansOf n) u) (tableOf s))

/-- A take leaves what its starts make (R64). -/
theorem tableOf_take {s : State} (hc : Canonical s) {n c : Nat}
    (h : Flashes.Form n (s.spansOf n) (Alarmed s n) (c + 1 + (firesOf s n).length) (tableOf s)) :
    tableOf (s.take n) = startedTable s n := by
  have hview := takeView_stored hc n
  have hlim : ∀ side, ((s.stored n).slot n).limit side = (s.slot n).limit side := fun side => by
    rw [State.stored, State.slot_setSlot, if_pos rfl, (Slot.taken_keeps _ _ _).limit]
  have hchecked : TakeView s n ((s.stored n).alertCheckOf n (s.pendingOf n)) ∧
      tableOf ((s.stored n).alertCheckOf n (s.pendingOf n)) = (firesOf s n).foldl
        (fun u _ => Flashes.alert (s.style (s.slot n).flashStyle) n (s.spansOf n) u) (tableOf s) := by
    have hal : firesOf s n ≠ [] → Alarmed s n := .inl
    unfold State.alertCheckOf
    rw [find_last_pendingOf]
    unfold firesOf at h hal ⊢
    cases hv : s.pendingValue n 2 with
    | none => exact ⟨hview, rfl⟩
    | some v =>
      rw [hv] at h hal
      have hkept := takeView_takeKept s n
      exact ⟨hkept.checkLimit (hkept.checkLimit hview v .high) v .low,
        tableOf_alertCheck hview (t := s.stored n) h hlim hal⟩
  obtain ⟨hview2, htable⟩ := hchecked
  have hpaint := (State.paintSlot_frame (s.started n) n).fau
  rw [State.take_eq, tableOf_congr (congrArg Fau.flash hpaint) (congrArg Fau.order hpaint), State.started,
    moved_pendingOf, tableOf_movingStarts _ hview2 (c := c), htable]
  · rfl
  · rw [htable]
    exact h.foldl_alert _ .inl

/-! ## The form from the laws -/

theorem one_le_limitCount {r : Slot} (h : r.alarmed) : 1 ≤ r.limitCount := by
  obtain ⟨side, hfired⟩ := h
  have hcounts := Limit.counts_of_isFired hfired
  unfold Slot.limitCount
  cases side with
  | high => rw [show r.high.counts = true from hcounts]; exact Nat.le_add_right ..
  | low => rw [show r.low.counts = true from hcounts]; exact Nat.le_add_left ..

/-- The indices that hold ALERT entries. -/
def alertIndices (u : Flashes) : Finset Nat :=
  (Finset.range 128).filter fun i => (u.entry i).any fun x => decide (x.kind = .alert)

theorem mem_alertIndices {u : Flashes} {i : Nat} :
    i ∈ alertIndices u ↔ i < 128 ∧ ∃ x, u.entry i = some x ∧ x.kind = .alert := by
  simp [alertIndices, Option.any_eq_true]

/-- The slot of the entry at an index. -/
def slotAt (u : Flashes) (i : Nat) : Nat := (u.entry i).elim 0 (·.slot)

theorem slotAt_of_entry {u : Flashes} {i : Nat} {x : FlashEntry} (hx : u.entry i = some x) : slotAt u i = x.slot := by
  rw [slotAt, hx, Option.elim_some]

/-- At most 32 indices hold ALERT entries: each goes with a slot of its own that has a FIRED limit (R104, R110). -/
theorem card_alertIndices_le {s : State} (hc : Canonical s) (h : AlarmForm s) :
    (alertIndices (tableOf s)).card ≤ 32 := by
  have hinj : Set.InjOn (slotAt (tableOf s)) (alertIndices (tableOf s)) := fun i hi j hj hij => by
    obtain ⟨-, x, hx, hxk⟩ := mem_alertIndices.mp hi
    obtain ⟨-, y, hy, hyk⟩ := mem_alertIndices.mp hj
    rw [slotAt_of_entry hx, slotAt_of_entry hy] at hij
    exact h.flash.distinct i j x y hx hy hij
      (((h.flash.entry i x hx).alert hxk).trans ((h.flash.entry j y hy).alert hyk).symm)
  have hle := Table.length_le_sum hc.slots (f := Slot.limitCount) rfl
    ((alertIndices (tableOf s)).image (slotAt (tableOf s))).nodup_toList fun k hk => by
      obtain ⟨i, hi, rfl⟩ := Finset.mem_image.mp (Finset.mem_toList.mp hk)
      obtain ⟨-, x, hx, hxk⟩ := mem_alertIndices.mp hi
      rw [slotAt_of_entry hx]
      exact one_le_limitCount (h.backed i x hx hxk)
  rw [Finset.length_toList, Finset.card_image_of_injOn hinj] at hle
  exact hle.trans h.limits.count

theorem spare_of_alarmForm {s : State} (hc : Canonical s) (h : AlarmForm s) :
    ∃ l : Finset Nat, 96 ≤ l.card ∧ ∀ i ∈ l, i < 128 ∧ ∀ x, (tableOf s).entry i = some x → x.kind ≠ .alert := by
  refine ⟨Finset.range 128 \ alertIndices (tableOf s), ?_, fun i hi => ?_⟩
  · have hdiff := Finset.le_card_sdiff (alertIndices (tableOf s)) (Finset.range 128)
    have hle := card_alertIndices_le hc h
    rw [Finset.card_range] at hdiff
    omega
  · obtain ⟨hlt, hnot⟩ := Finset.mem_sdiff.mp hi
    have hlt := Finset.mem_range.mp hlt
    exact ⟨hlt, fun x hx hk => hnot (mem_alertIndices.mpr ⟨hlt, x, hx, hk⟩)⟩

/-- The laws give the form from which a take's starts begin. The references of cells play no part: the laws are read of
the state with its cells blank. -/
theorem form_tableOf {s : State} (hcan : Canonical s) (hal : s.alertLaw) (hf : s.flashLaw) (n : Nat) :
    Flashes.Form n (s.spansOf n) (Alarmed s n) 96 (tableOf s) := by
  have hc : Canonical (s.setCells []) := hcan.setCells rfl
  have h : AlarmForm (s.setCells []) := (alarmForm_iff hc).mp ⟨hal, hf, nofun⟩
  exact
    { index := fun {i x} hx => h.flash.index i x hx
      distinct := fun {i j x y} hx hy => h.flash.distinct i j x y hx hy
      nodup := h.flash.nodup
      listed := fun {i x} hx => (h.flash.order i).mpr ⟨x, hx⟩
      spans := fun {i x} hx hn => hn ▸ (h.flash.entry i x hx).spans
      alert := fun {i x} hx hn hk =>
        ⟨(h.flash.entry i x hx).alert hk, .inr (Slot.alarmed_iff.mp (hn ▸ h.backed i x hx hk))⟩
      spare := spare_of_alarmForm (s := s.setCells []) hc h }

/-! ## The statement -/

theorem movesOf_distinct (s : State) (n : Nat) : (movesOf s n).Pairwise fun a b => a.1 ≠ b.1 := by
  have hfield : ∀ {f : Field} {m : Field × MoveKind}, (moveOf s n f).map (fun k => (f, k)) = some m → m.1 = f :=
    fun hm => by
      obtain ⟨k, -, rfl⟩ := Option.map_eq_some_iff.mp hm
      rfl
  refine List.pairwise_filterMap.mpr ?_
  have hfields : [Field.bid, .ask, .last].Pairwise (· ≠ ·) := by decide
  refine hfields.imp fun hne a ha b hb hab => hne ?_
  rw [← hfield ha, ← hfield hb, hab]

theorem movesOf_length (s : State) (n : Nat) : (movesOf s n).length ≤ 3 := List.length_filterMap_le ..

/-- Settles O42: the table after a take is that of its starts. The ALERT entry stays through the moving starts, and
these are too few to reach the index of one of them as the oldest. -/
theorem takeStartsFlashes : Obligations.TakeStartsFlashes := by
  intro s n htake hcan hal hf
  have hc := (canonical_iff s).mp hcan
  have hfires := firesOf_length s n
  have hmoves := movesOf_length s n
  obtain ⟨c, hcount, hthree⟩ : ∃ c, c + 1 + (firesOf s n).length = 96 ∧ 3 ≤ c :=
    ⟨95 - (firesOf s n).length, by omega, by omega⟩
  have hform := form_tableOf hc hal hf n
  rw [← hcount] at hform
  have htable := tableOf_take hc hform
  have hfired := hform.foldl_alert (s.style (s.slot n).flashStyle) .inl
  have hentry : ∀ i, (s.take n).flashEntry i = (startedTable s n).entry i := congrFun (congrArg Flashes.entry htable)
  refine ⟨s.take n, exec_commitStep htake, ⟨hentry, congrArg Flashes.order htable⟩, fun hne => ?_,
    fun f hprice k hk hstands => ?_⟩
  · obtain ⟨i, x, hx, hrest⟩ := hfired.alarms_foldl_move (s.style (s.slot n).flashStyle) s.cme.frame (movesOf s n)
      (hform.alarms_foldl (s.style (s.slot n).flashStyle) (.inl hne) hne)
    exact ⟨i, x, (hentry i).trans hx, hrest⟩
  · have hmem : (f, k) ∈ movesOf s n := List.mem_filterMap.mpr ⟨f, hprice, by rw [hk]; rfl⟩
    obtain ⟨hzero, hpos⟩ := hfired.foldl_move_spec (s.style (s.slot n).flashStyle) s.cme.frame (movesOf_distinct s n)
      (hmoves.trans hthree) hmem hstands
    refine ⟨fun hst i x hx => hzero hst i x ((hentry i).symm.trans hx), fun hst => ?_⟩
    obtain ⟨i, hi⟩ := hpos (Nat.one_le_iff_ne_zero.mp hst)
    refine ⟨i, (hentry i).trans (hi.trans ?_)⟩
    cases k <;> rfl

end Sys2Proof.Claims
end

-- ==== Proofs: rounding ====
section
/-!
O53. The magnitude of a rounded value; then its distance from the exact one.
-/

namespace Sys2Proof.Machine

/-! ## Rounding (R81) -/

theorem natAbs_roundHalf (num : Int) (den : Nat) :
    (roundHalf num den).natAbs = (2 * num.natAbs + den) / (2 * den) := by
  unfold roundHalf
  split
  · exact Int.natAbs_neg _
  · rfl

/-- The result has the sign of `num`, so that its distance is that of the magnitudes. -/
theorem natAbs_roundHalf_mul_sub (num : Int) (den : Nat) :
    (roundHalf num den * den - num).natAbs =
      (((roundHalf num den).natAbs * den : Nat) - (num.natAbs : Int) : Int).natAbs := by
  rw [natAbs_roundHalf]
  unfold roundHalf
  split
  · next hneg =>
    rw [← Int.natAbs_neg, Int.ofNat_natAbs_of_nonpos hneg.le]
    push_cast
    ring_nf
  · next hpos =>
    rw [Int.natAbs_of_nonneg (Int.not_lt.mp hpos)]
    push_cast
    rfl

end Sys2Proof.Machine

namespace Sys2Proof.Claims

open Sys2Proof.Machine

/-- Settles O53: the magnitude `q` of the result has `q * den` in the half-open interval of length `den` that ends
`den / 2` above the magnitude of `num`. -/
theorem roundsHalfAwayFromZero : Obligations.RoundsHalfAwayFromZero := by
  intro num den hden
  rw [natAbs_roundHalf_mul_sub, Int.natAbs_mul, Int.natAbs_natCast, natAbs_roundHalf]
  have hlow := Nat.div_mul_le_self (2 * num.natAbs + den) (2 * den)
  have hhigh := Nat.lt_div_mul_add (a := 2 * num.natAbs + den) (b := 2 * den) (by omega)
  rw [Nat.mul_left_comm] at hlow hhigh
  generalize (2 * num.natAbs + den) / (2 * den) * den = near at hlow hhigh ⊢
  omega

end Sys2Proof.Claims
end

-- ==== Proofs: the cells of a column ====
section
/-!
O52. The formatter's texts are those of the statement: its digits are those of the number, its separators stand between
groups of three digits, and so for every source; then the foreground and the flash reference of the cells.
-/

namespace Sys2Proof.Claims

open Sys2Proof.Machine

/-! ## Numbers in decimal digits -/

theorem codeOf_digitChar {d : Nat} (hd : d < 10) : codeOf d.digitChar = chr (0x30 + d) := by
  have hall : ∀ d < 10, codeOf (Nat.digitChar d) = chr (0x30 + d) := by decide
  exact hall d hd

theorem decimal_of_lt {n : Nat} (h : n < 10) : decimal n = [codeOf n.digitChar] := by
  rw [decimal, Nat.toDigits_of_lt_base h, List.map_singleton]

theorem decimal_of_ge {n : Nat} (h : 10 ≤ n) : decimal n = decimal (n / 10) ++ decimal (n % 10) := by
  rw [decimal_of_lt (Nat.mod_lt n (by decide)), decimal, Nat.toDigits_of_base_le (by decide) h, List.map_append,
    List.map_singleton, decimal]

theorem length_decimal_le_iff {n w : Nat} (hw : 0 < w) : (decimal n).length ≤ w ↔ n < 10 ^ w := by
  rw [decimal, List.length_map, Nat.length_toDigits_le_iff (by decide) hw]

/-- The digits of the formatter are those of the number, as its fuel is enough. -/
theorem map_decDigits {fuel n : Nat} (h : n < fuel) : ((decDigits fuel n).map fun d => chr (0x30 + d)) = decimal n := by
  induction fuel generalizing n with
  | zero => omega
  | succ fuel ih =>
    by_cases hn : n < 10
    · rw [decDigits, if_pos hn, decimal_of_lt hn, codeOf_digitChar hn, List.map_singleton]
    · have hmod : n % 10 < 10 := Nat.mod_lt n (by decide)
      rw [decDigits, if_neg hn, List.map_append, ih (by omega), decimal_of_ge (Nat.not_lt.mp hn), decimal_of_lt hmod,
        codeOf_digitChar hmod, List.map_singleton]

@[simp] theorem digits_eq_decimal (n : Nat) : digits n = decimal n := map_decDigits (Nat.lt_succ_self n)

@[simp] theorem padDigits_eq_zeroPadded (w n : Nat) : padDigits w n = zeroPadded w n := by
  rw [padDigits, digits_eq_decimal]
  rfl

/-! ## Leading zeros -/

theorem zeroPadded_one {n : Nat} (h : n < 10) : zeroPadded 1 n = decimal n := by
  rw [zeroPadded, decimal_of_lt h]
  rfl

theorem zeroPadded_succ {w : Nat} (hw : 0 < w) (n : Nat) :
    zeroPadded (w + 1) n = zeroPadded w (n / 10) ++ decimal (n % 10) := by
  by_cases hn : n < 10
  · obtain ⟨v, rfl⟩ := Nat.exists_eq_succ_of_ne_zero hw.ne'
    have hzero : zeroPadded (v + 1) 0 = List.replicate (v + 1) (codeOf '0') := List.replicate_succ'.symm
    rw [Nat.div_eq_of_lt hn, Nat.mod_eq_of_lt hn, hzero, zeroPadded, decimal_of_lt hn]
    rfl
  · rw [zeroPadded, zeroPadded, decimal_of_ge (Nat.not_lt.mp hn), ← List.append_assoc, List.length_append,
      decimal_of_lt (Nat.mod_lt n (by decide)), List.length_singleton, Nat.add_sub_add_right]

theorem length_zeroPadded {w n : Nat} (hw : 0 < w) (h : n < 10 ^ w) : (zeroPadded w n).length = w := by
  have := (length_decimal_le_iff hw).mpr h
  rw [zeroPadded, List.length_append, List.length_replicate]
  omega

/-- A number of more than `w + 1` digits ends in `w + 1` digits with their leading zeros. -/
theorem decimal_append_zeroPadded {w n : Nat} (h : 10 ^ (w + 1) ≤ n) :
    decimal n = decimal (n / 10 ^ (w + 1)) ++ zeroPadded (w + 1) (n % 10 ^ (w + 1)) := by
  induction w generalizing n with
  | zero =>
    rw [Nat.zero_add, pow_one] at h ⊢
    rw [zeroPadded_one (Nat.mod_lt n (by decide)), decimal_of_ge h]
  | succ w ih =>
    have hten : 10 ≤ n := (Nat.le_self_pow (by omega) 10).trans h
    have hdiv : 10 ^ (w + 1) ≤ n / 10 := (Nat.le_div_iff_mul_le (by decide)).mpr (by rwa [← pow_succ])
    rw [decimal_of_ge hten, ih hdiv, zeroPadded_succ w.succ_pos, Nat.div_div_eq_div_mul, ← pow_succ',
      List.append_assoc, pow_succ' 10 (w + 1), Nat.mod_mul_right_div_self, Nat.mod_mul_right_mod]

/-! ## Separators -/

theorem separateRev_of_length_le {t : Text} (h : t.length ≤ 3) : separateRev t = t := by
  match t, h with
  | [], _ | [_], _ | [_, _], _ | [_, _, _], _ => rfl

theorem separate_of_length_le {t : Text} (h : t.length ≤ 3) : separate t = t := by
  rw [separate, separateRev_of_length_le (by rwa [List.length_reverse]), List.reverse_reverse]

/-- The last three characters of a longer text are one group. -/
theorem separate_append {t u : Text} (ht : t ≠ []) (hu : u.length = 3) :
    separate (t ++ u) = separate t ++ codeOf ',' :: u := by
  obtain ⟨a, b, c, rfl⟩ := List.length_eq_three.mp hu
  obtain ⟨d, rest, hrev⟩ := List.exists_cons_of_ne_nil (mt List.reverse_eq_nil_iff.mp ht)
  rw [separate, separate, List.reverse_append, hrev]
  change (c :: b :: a :: codeOf ',' :: separateRev (d :: rest)).reverse = _
  simp

theorem groupedWith_eq_separate {fuel n : Nat} (h : n ≤ fuel) : groupedWith fuel n = separate (decimal n) := by
  have hshort : ∀ {m}, m < 1000 → separate (decimal m) = decimal m := fun hm =>
    separate_of_length_le ((length_decimal_le_iff (by decide)).mpr hm)
  induction fuel generalizing n with
  | zero => rw [groupedWith, hshort (by omega)]
  | succ fuel ih =>
    by_cases hn : n < 1000
    · rw [groupedWith, if_pos hn, hshort hn]
    · have hmod : n % 1000 < 10 ^ 3 := Nat.mod_lt n (by decide)
      have hne : decimal (n / 1000) ≠ [] := by simp [decimal]
      rw [groupedWith, if_neg hn, ih (by omega), decimal_append_zeroPadded (w := 2) (Nat.not_lt.mp hn)]
      exact (separate_append hne (length_zeroPadded (by decide) hmod)).symm

theorem separate_decimal (n : Nat) : separate (decimal n) = grouped n := (groupedWith_eq_separate n.le_refl).symm

/-! ## Prices and changes -/

theorem priceSign_eq_signOf : priceSign = signOf false := by
  funext q
  simp only [signOf, Bool.false_eq_true, false_and, if_false]
  rfl

theorem changeSign_eq_signOf : changeSign = signOf true := by
  funext q
  simp only [signOf, true_and]
  rfl

theorem decText_eq_pointText (change sep : Bool) (e : Nat) (q : Int) :
    decText (signOf change) sep e q = pointText change sep e q := by
  simp only [decText, pointText, digits_eq_decimal, padDigits_eq_zeroPadded, separate_decimal]
  cases sep <;> rfl

/-- The DEC texts are tried from the most decimals down to none (R83). -/
theorem downFrom_eq (e : Nat) : downFrom e = (List.range (e + 1)).map fun j => e - j := by
  rw [downFrom, List.range_eq_range', List.reverse_range', ← List.range_eq_range']
  simp

theorem scaledTexts_eq_priceTexts (change : Bool) (sc : Scale) (c : Column) (v : Int) :
    scaledTexts (signOf change) sc c.sep c.maxdec v = priceTexts change sc c v := by
  cases sc with
  | dec d =>
    simp only [scaledTexts, decTexts, priceTexts, decText_eq_pointText, downFrom_eq, List.map_map]
    rfl
  | frac k =>
    simp only [scaledTexts, fracText, priceTexts, digits_eq_decimal]
    split
    · rfl
    · split
      · rfl
      · simp only [List.append_assoc]
        rfl
  | h32 =>
    simp only [scaledTexts, h32Text, priceTexts, digits_eq_decimal, padDigits_eq_zeroPadded]
    rfl

/-! ## Percentages, sizes and times -/

theorem pctTexts_eq_percentTexts (last ref : Int) : pctTexts last ref = percentTexts last ref := by
  by_cases href : ref ≤ 0
  · rw [pctTexts, percentTexts, if_pos href, if_pos href]
    rfl
  · have hnat : ref.natAbs = ref.toNat := by omega
    simp only [pctTexts, percentTexts, if_neg href, changeSign_eq_signOf, decText_eq_pointText, hnat]
    rfl

theorem sizeTexts_eq_sizesOf (c : Column) (n : Nat) : sizeTexts c.sep c.compress n = sizesOf c n := by
  simp only [sizeTexts, sizesOf, digits_eq_decimal, separate_decimal]
  rfl

theorem timeTexts_eq_timesOf (w : Nat) (v : Int) : timeTexts w v = timesOf w v.natAbs := by
  simp only [timeTexts, timesOf, padDigits_eq_zeroPadded]
  rfl

/-! ## The text of a column -/

theorem placeText_eq (c : Column) (t : Text) :
    placeText c.width c.align t =
      if c.align = .left then t ++ List.replicate (c.width - t.length) (codeOf ' ')
      else List.replicate (c.width - t.length) (codeOf ' ') ++ t := by
  cases c.align <;> rfl

theorem fitText_eq_fitted (c : Column) (fill : Char) (ts : List Text) :
    fitText c.width c.align fill.toNat ts = fitted c fill ts := by
  unfold fitText fitted
  split
  · next t h => simp only [h, placeText_eq]
  · next h => simp only [h]; rfl

theorem fitted_singleton {c : Column} {fill : Char} {t : Text} (h : t.length ≤ c.width) :
    fitted c fill [t] = placeText c.width c.align t := by
  rw [← fitText_eq_fitted, fitText, List.find?_cons_of_pos (by exact decide_eq_true h)]

/-- The text of a price is in the slot's scale; without a scale, spaces (R82 to R86). -/
theorem priceText_eq (r : Slot) (c : Column) (v : Int) :
    fieldText.priceText r c v =
      r.scale.elim (List.replicate c.width (codeOf ' ')) fun sc => fitted c '#' (priceTexts false sc c v) := by
  unfold fieldText.priceText
  cases r.scale with
  | none => rfl
  | some sc =>
    rw [Option.elim_some, ← fitText_eq_fitted, ← scaledTexts_eq_priceTexts, ← priceSign_eq_signOf]
    rfl

theorem sizeText_eq (c : Column) (v : Int) : fieldText.sizeText c v = fitted c '*' (sizesOf c v.natAbs) := by
  rw [← fitText_eq_fitted, ← sizeTexts_eq_sizesOf]
  rfl

theorem timeText_eq (c : Column) (v : Int) :
    fitText c.width c.align 0x23 (timeTexts c.width v) = fitted c '#' (timesOf c.width v.natAbs) := by
  rw [← fitText_eq_fitted, timeTexts_eq_timesOf]
  rfl

/-- The text of a field that holds a value is that of a TIME, a size or a price (R82 to R86, R91 to R93). -/
theorem fieldText_eq (r : Slot) (c : Column) (f : Field) (v : Int) :
    fieldText r c f v =
      if f = .time then fitted c '#' (timesOf c.width v.natAbs)
      else if f = .bsize ∨ f = .asize ∨ f = .volume then fitted c '*' (sizesOf c v.natAbs)
      else r.scale.elim (List.replicate c.width (codeOf ' ')) fun sc => fitted c '#' (priceTexts false sc c v) := by
  rw [← timeText_eq, ← sizeText_eq, ← priceText_eq]
  cases f <;> rfl

theorem changeText_eq (sc : Scale) (c : Column) (v : Int) :
    fitText c.width c.align 0x23 (scaledTexts changeSign sc c.sep c.maxdec v) =
      fitted c '#' (priceTexts true sc c v) := by
  rw [← fitText_eq_fitted, changeSign_eq_signOf, scaledTexts_eq_priceTexts]
  rfl

theorem percentText_eq (c : Column) (last ref : Int) :
    fitText c.width c.align 0x23 (pctTexts last ref) = fitted c '#' (percentTexts last ref) := by
  rw [← fitText_eq_fitted, pctTexts_eq_percentTexts]
  rfl

/-- The text of a column by its source (R80 to R95). -/
theorem columnText_eq_codesOf (r : Slot) (c : Column) : columnText r c = codesOf r c := by
  unfold columnText codesOf Slot.change
  cases c.source with
  | field f =>
    dsimp only
    cases r.value f with
    | none => rfl
    | some v => exact fieldText_eq r c f v
  | chg =>
    cases r.value .last with
    | none => rfl
    | some last =>
      cases r.value .ref with
      | none => rfl
      | some ref =>
        cases r.scale with
        | none => rfl
        | some sc => exact changeText_eq sc c (last - ref)
  | pct =>
    cases r.value .last with
    | none => rfl
    | some last =>
      cases r.value .ref with
      | none => rfl
      | some ref => exact percentText_eq c last ref
  | symbol => exact (fitted_singleton (List.length_take_le ..)).symm
  | arrow =>
    change List.replicate c.width (arrowCode _) = _
    cases (r.move .last).dir <;> rfl

/-! ## The foreground of a column -/

theorem columnFg_eq (st : Style) (d : Direction) :
    columnFg st d =
      if st.dirtext = false then st.fg else if d = .up then st.up else if d = .down then st.down else st.fg := by
  unfold columnFg
  cases st.dirtext with
  | false => rfl
  | true => cases d <;> rfl

/-- CHG and PCT have one colour, that of the exact difference (R96). -/
theorem columnFg_changeDirection (st : Style) (r : Slot) :
    columnFg st (columnDirection.changeDirection r) = fgOf st r .chg := by
  rw [columnFg_eq]
  unfold columnDirection.changeDirection Slot.change fgOf
  cases r.value .last with
  | none => rfl
  | some last =>
    cases r.value .ref with
    | none => rfl
    | some ref =>
      by_cases hup : ref < last
      · simp only [if_pos hup, if_true]
      · by_cases hdown : last < ref
        · simp only [if_neg hup, if_pos hdown, reduceCtorEq, if_false, if_true]
        · simp only [if_neg hup, if_neg hdown, reduceCtorEq, if_false]

theorem columnFg_eq_fgOf (st : Style) (r : Slot) (src : Source) :
    columnFg st (columnDirection r src) = fgOf st r src := by
  cases src with
  | field f => rw [columnFg_eq]; cases f <;> rfl
  | chg => exact columnFg_changeDirection st r
  | pct => exact columnFg_changeDirection st r
  | symbol => rw [columnFg_eq]; rfl
  | arrow => rw [columnFg_eq]; rfl

/-! ## The cells -/

theorem columnRef_priceField (s : State) (n : Nat) {f : Field} (hf : f ∈ priceFields) :
    s.columnRef n (.field f) = s.fau.find n f := by
  cases f with
  | bid | ask | last => rfl
  | bsize | asize | volume | ref | time => exact absurd hf (by decide)

/-- Settles O52: the cells of a column differ in their codes only, which are its text; the reference they share is the
index at which the flash table is found to hold the field. -/
theorem columnFillsItsWidth : Obligations.ColumnFillsItsWidth := by
  refine ⟨fun s n c => ⟨s.columnCells_length n c, ?_, fun x hx => ?_⟩, fun s n c hwf f hf hsrc x hx => ?_⟩
  · rw [← columnText_eq_codesOf, State.columnCells, List.map_map]
    exact List.map_id _
  · obtain ⟨code, -, rfl⟩ := List.mem_map.mp hx
    refine ⟨rfl, rfl, rfl, columnFg_eq_fgOf .., fun hother => ?_⟩
    refine Option.eq_none_iff_forall_ne_some.mpr fun i hi => ?_
    obtain ⟨f, hsrc, hf, -⟩ := State.columnRef_eq_some hi
    exact hother f hf hsrc
  · obtain ⟨-, -, href⟩ := State.mem_columnCells hx
    rw [hsrc, columnRef_priceField s n hf] at href
    rw [href]
    exact ⟨fun i hfind => State.find_some hwf hfind,
      fun hfind i e he ⟨hn, hfield⟩ => State.find_none hfind i e he hn hfield⟩

end Sys2Proof.Claims
end

-- ==== Proofs: LIMIT ====
section
/-!
O22. LIMIT: what its operands give, its action as a chain of the statement's checks, then the statement.
-/

namespace Sys2Proof.Claims

open Sys2Proof.Machine

/-! ## The operands -/

/-- A choice of two values, numbered 0 and 1 (R184). -/
theorem choiceOfTwo_eq_some {α : Type} {b : Byte} {x y v : α} :
    (match b.toNat with
      | 0 => some x
      | 1 => some y
      | _ => none) = some v ↔ b.toNat ≤ 1 ∧ v = if b = 0 then x else y := by
  split
  · next hb => rw [(byte_eq_iff b 0 (by omega)).mpr hb]; simp [eq_comm]
  · next hb => rw [(byte_eq_iff b 1 (by omega)).mpr hb]; simp [eq_comm]
  · next h0 h1 =>
    have : ¬ b.toNat ≤ 1 := fun hle => (Nat.le_one_iff_eq_zero_or_eq_one.mp hle).elim h0 h1
    simp [this]

theorem side?_eq_some {b : Byte} {side : Side} : Side.ofByte? b = some side ↔ b.toNat ≤ 1 ∧ side = sideOf b :=
  choiceOfTwo_eq_some

theorem side?_eq_none {b : Byte} (h : ¬ b.toNat ≤ 1) : Side.ofByte? b = none :=
  Option.eq_none_iff_forall_ne_some.mpr fun _ hs => h (side?_eq_some.mp hs).1

/-- The action named by a choice of ARM 0, DISARM 1. -/
def limitActionOf (b : Byte) : LimitAction := if b = 0 then .arm else .disarm

theorem limitAction?_eq_some {b : Byte} {act : LimitAction} :
    LimitAction.ofByte? b = some act ↔ b.toNat ≤ 1 ∧ act = limitActionOf b :=
  choiceOfTwo_eq_some

/-- The length that an action requires, said of each action (R111). -/
theorem limitLengthOk_eq (o : LimitOps) :
    limitLengthOk o = decide ((o.action = 0 → o.level.isSome) ∧ (o.action = 1 → o.level.isNone)) := by
  unfold limitLengthOk
  cases hact : LimitAction.ofByte? o.action with
  | none =>
    have hne : ∀ b : Byte, b.toNat ≤ 1 → o.action ≠ b := fun b hb he =>
      nomatch hact.symm.trans (limitAction?_eq_some.mpr ⟨he ▸ hb, rfl⟩)
    exact (decide_eq_true ⟨fun h => absurd h (hne 0 (by decide)), fun h => absurd h (hne 1 (by decide))⟩).symm
  | some act =>
    obtain ⟨hle, rfl⟩ := limitAction?_eq_some.mp hact
    rcases Nat.le_one_iff_eq_zero_or_eq_one.mp hle with h0 | h1
    · simp [limitActionOf, (byte_eq_iff o.action 0 (by omega)).mpr h0]
    · rw [(byte_eq_iff o.action 1 (by omega)).mpr h1, Bool.eq_iff_iff, decide_eq_true_iff]
      exact ⟨fun hnone => ⟨fun h => absurd h (by decide), fun _ => hnone⟩, fun h => h.2 rfl⟩

/-- The limit that an accepted LIMIT leaves (R112). -/
def limitLeft (o : LimitOps) : Limit := if o.action = 0 then .armed (o.level.getD 0).toInt else .disarmed

theorem withLimit_eq (r : Slot) (side : Side) (l : Limit) : withLimit r side l = r.setLimit side l := by
  cases side <;> rfl

/-! ## LIMIT -/

theorem limitAction_badLength {o : LimitOps} (s : State) (h : limitLengthOk o = false) :
    limitAction o s = refuse .badLength s := by
  simp only [limitAction, h]
  rfl

theorem limitAction_badValue {o : LimitOps} (s : State) (hlen : limitLengthOk o = true)
    (h : ¬ (o.limit.toNat ≤ 1 ∧ o.action.toNat ≤ 1)) : limitAction o s = refuse .badValue s := by
  unfold limitAction
  simp only [hlen, if_true]
  split
  · next hside hact => exact absurd ⟨(side?_eq_some.mp hside).1, (limitAction?_eq_some.mp hact).1⟩ h
  · rfl

theorem limitAction_eq {o : LimitOps} (s : State) (hlen : limitLengthOk o = true) (hlimit : o.limit.toNat ≤ 1)
    (hact : o.action.toNat ≤ 1) :
    limitAction o s =
      if (s.slot o.slot.toNat).defined then
        if ((s.slot o.slot.toNat).limit (sideOf o.limit)).isFired then refuse .fired s
        else if o.action = 0 → (s.slot o.slot.toNat).limit (sideOf o.limit) = .disarmed → s.limitCount < 32 then
          s.setLimit o.slot.toNat (sideOf o.limit) (limitLeft o)
        else refuse .full s
      else refuse .noSlot s := by
  unfold limitAction
  simp only [hlen, if_true, side?_eq_some.mpr ⟨hlimit, rfl⟩, limitAction?_eq_some.mpr ⟨hact, rfl⟩]
  refine if_congr Iff.rfl ?_ rfl
  by_cases harm : o.action = 0
  · have hof : limitActionOf o.action = .arm := if_pos harm
    have hleft : limitLeft o = .armed (o.level.getD 0).toInt := if_pos harm
    rw [hof, hleft]
    cases (s.slot o.slot.toNat).limit (sideOf o.limit) with
    | disarmed => exact (if_congr ⟨fun h _ _ => h, fun h => h harm rfl⟩ rfl rfl).trans (if_neg Bool.false_ne_true).symm
    | armed l => exact (if_pos fun _ h => nomatch h).symm
    | fired l => rfl
  · have hof : limitActionOf o.action = .disarm := if_neg harm
    have hleft : limitLeft o = .disarmed := if_neg harm
    rw [hof, hleft]
    cases (s.slot o.slot.toNat).limit (sideOf o.limit) with
    | disarmed => exact (if_pos fun h => absurd h harm).symm
    | armed l => exact (if_pos fun h => absurd h harm).symm
    | fired l => rfl

theorem limit_request (s : State) (tag : Byte) (o : LimitOps) :
    Request (.limit tag (.ops o)) s (limitChecks o s (sideOf o.limit)) (fun f t =>
      let n := o.slot.toNat
      let side := sideOf o.limit
      let l := if o.action = 0 then Limit.armed (o.level.getD 0).toInt else .disarmed
      Answered s t f (.limit l t.limitCount) ∧
      t = { s with fli := t.fli, itb := { s.itb with slots := t.itb.slots } } ∧
      (∀ m, t.slot m = if m = n then withLimit (s.slot n) side l else s.slot m) ∧
      (Table.wf .empty s.itb.slots = true →
        t.limitCount + ((s.slot n).limit side).counts.toNat = s.limitCount + l.counts.toNat)) := by
  refine request_of_answers (act := limitAction o) rfl rfl ?_
  unfold limitChecks
  rw [← limitLengthOk_eq]
  refine .check (limitAction_badLength _) fun hlen => .check (fun hbad => ?_) fun hval => ?_
  · exact limitAction_badValue _ hlen (of_decide_eq_false hbad)
  obtain ⟨hlimit, hact⟩ := of_decide_eq_true hval
  have heq := limitAction_eq s.dropHead hlen hlimit hact
  rw [State.slot_dropHead, defined_eq] at heq
  refine .check (fun hfree => ?_) fun hdef => ?_
  · exact heq.trans (if_neg (by simpa using hfree))
  replace heq := heq.trans (if_pos hdef)
  refine .check (fun hfired => ?_) fun hunfired => .check (fun hfull => ?_) fun hroom => ?_
  · exact heq.trans (if_pos (by simpa using hfired))
  all_goals rw [if_neg (by simpa using hunfired)] at heq
  · exact heq.trans (if_neg (of_decide_eq_false hfull))
  · refine .accepted _ _ (heq.trans (if_pos (of_decide_eq_true hroom)))
      ⟨answered_accept rfl _ _, rfl, fun m => ?_, fun hwf => ?_⟩
    · rw [withLimit_eq]
      exact State.slot_setSlot ..
    · exact State.limitCount_setLimit (s := s.dropHead) hwf ..

/-- Settles O22: LIMIT from its action, check by check. -/
theorem limitArms : Obligations.LimitArms := fun s tag o =>
  ⟨limit_request s tag o, fun _ => wrongLength_of_withOps rfl rfl⟩

end Sys2Proof.Claims
end

-- ==== Proofs: LINES ====
section
/-!
O26. LINES: its four choices read at once, then what each line holds and answers.
-/

namespace Sys2Proof.Claims

open Sys2Proof.Machine

theorem lineFunc?_eq_some {b : Byte} {fn : LineFunc} : LineFunc.ofByte? b = some fn ↔ fn.byte = b := by
  constructor
  · intro h
    unfold LineFunc.ofByte? at h
    split at h
    · next hb => cases h; exact ((byte_eq_iff b 0 (by omega)).mpr hb).symm
    · next hb => cases h; exact ((byte_eq_iff b 1 (by omega)).mpr hb).symm
    · next hb => cases h; exact ((byte_eq_iff b 2 (by omega)).mpr hb).symm
    · next hb => cases h; exact ((byte_eq_iff b 3 (by omega)).mpr hb).symm
    · next hb => cases h; exact ((byte_eq_iff b 4 (by omega)).mpr hb).symm
    · next hb => cases h; exact ((byte_eq_iff b 5 (by omega)).mpr hb).symm
    · exact nomatch h
  · rintro rfl
    cases fn <;> rfl

theorem lineFunc_byte_le (fn : LineFunc) : fn.byte.toNat ≤ 5 := by
  cases fn <;> decide

/-- The bytes 0 to 5 are those of the functions (R184). -/
theorem exists_lineFunc {b : Byte} (h : b.toNat ≤ 5) : ∃ fn : LineFunc, fn.byte = b := by
  have hall : ∀ n ≤ 5, ∃ fn ∈ [LineFunc.input, .ack, .hold, .lamp, .out0, .out1], fn.byte.toNat = n := by decide
  obtain ⟨fn, -, hfn⟩ := hall b.toNat h
  exact ⟨fn, BitVec.toNat_inj.mp hfn⟩

theorem linesAction_badValue {o : LinesOps} (s : State)
    (h : ¬ (o.l0.toNat ≤ 5 ∧ o.l1.toNat ≤ 5 ∧ o.l2.toNat ≤ 5 ∧ o.l3.toNat ≤ 5)) :
    linesAction o s = refuse .badValue s := by
  have hle : ∀ {b : Byte} {fn : LineFunc}, LineFunc.ofByte? b = some fn → b.toNat ≤ 5 := fun {b fn} hb =>
    lineFunc?_eq_some.mp hb ▸ lineFunc_byte_le fn
  unfold linesAction
  split
  · next h0 h1 h2 h3 => exact absurd ⟨hle h0, hle h1, hle h2, hle h3⟩ h
  · rfl

/-- The lines given the functions `fns` (R186). -/
def linesGiven (s : State) (a b c d : LineFunc) : State :=
  s.setLines (Table.writeRun .idle s.lnu.lines 0
    [(s.line 0).given a, (s.line 1).given b, (s.line 2).given c, (s.line 3).given d])

theorem linesAction_eq {o : LinesOps} (s : State) {a b c d : LineFunc} (ha : a.byte = o.l0) (hb : b.byte = o.l1)
    (hc : c.byte = o.l2) (hd : d.byte = o.l3) :
    linesAction o s = accept (.lines (linesGiven s a b c d).linesBody) (linesGiven s a b c d) := by
  unfold linesAction
  rw [lineFunc?_eq_some.mpr ha, lineFunc?_eq_some.mpr hb, lineFunc?_eq_some.mpr hc, lineFunc?_eq_some.mpr hd]
  rfl

theorem line_linesGiven (s : State) (a b c d : LineFunc) {l : Nat} (hl : l < 4) :
    ∃ fn, [a, b, c, d][l]? = some fn ∧ (linesGiven s a b c d).line l = (s.line l).given fn := by
  have hline : (linesGiven s a b c d).line l = _ := Table.get_writeRun ..
  rw [hline, if_pos ⟨Nat.zero_le l, by simpa using hl⟩]
  match l, hl with
  | 0, _ => exact ⟨a, rfl, rfl⟩
  | 1, _ => exact ⟨b, rfl, rfl⟩
  | 2, _ => exact ⟨c, rfl, rfl⟩
  | 3, _ => exact ⟨d, rfl, rfl⟩

theorem given_eq (x : Line) (fn : LineFunc) :
    x.given fn = if x.func = fn then x else ⟨fn, x.pin, x.pin, 0, false⟩ := rfl

/-- The level that a line answers, an output line the one it drives (R118, R186). -/
theorem lineLevel_eq (s : State) (l : Nat) :
    s.lineLevel l = match (s.line l).func with
      | .lamp => if s.fau.alerts = [] then .high else .low
      | .out0 => .low
      | .out1 => .high
      | _ => (s.line l).level := by
  unfold State.lineLevel State.lampLevel
  cases (s.line l).func <;> simp [List.isEmpty_iff]

theorem lines_request (s : State) (tag : Byte) (o : LinesOps) :
    Request (.lines tag (.ops o)) s
      [(decide (o.l0.toNat ≤ 5 ∧ o.l1.toNat ≤ 5 ∧ o.l2.toNat ≤ 5 ∧ o.l3.toNat ≤ 5), .badValue)] (fun f t =>
      t = { s with fli := t.fli, lnu := t.lnu } ∧
      (∀ l < 4, ∃ fn : LineFunc, [o.l0, o.l1, o.l2, o.l3][l]? = some fn.byte ∧
        t.line l =
          if (s.line l).func = fn then s.line l else ⟨fn, (s.line l).pin, (s.line l).pin, 0, false⟩) ∧
      Answered s t f (.lines ((List.range 4).map fun l =>
        ((t.line l).func,
         (match (t.line l).func with
          | .lamp => if s.fau.alerts = [] then .high else .low
          | .out0 => .low
          | .out1 => .high
          | _ => (t.line l).level),
         (t.line l).edges)))) := by
  refine request_of_answers (act := linesAction o) rfl rfl (.check (fun hbad => ?_) fun hok => ?_)
  · exact linesAction_badValue _ (of_decide_eq_false hbad)
  obtain ⟨h0, h1, h2, h3⟩ := of_decide_eq_true hok
  obtain ⟨a, ha⟩ := exists_lineFunc h0
  obtain ⟨b, hb⟩ := exists_lineFunc h1
  obtain ⟨c, hc⟩ := exists_lineFunc h2
  obtain ⟨d, hd⟩ := exists_lineFunc h3
  let u := linesGiven s.dropHead a b c d
  have hbody : u.linesBody = (List.range 4).map fun l => ((u.line l).func, _, (u.line l).edges) :=
    List.map_congr_left fun l _ => by rw [lineLevel_eq]
  refine .accepted _ _ (linesAction_eq s.dropHead ha hb hc hd) ⟨rfl, fun l hl => ?_, ?_⟩
  · obtain ⟨fn, hfn, hline⟩ := line_linesGiven s.dropHead a b c d hl
    refine ⟨fn, ?_, hline.trans (given_eq ..)⟩
    rw [← ha, ← hb, ← hc, ← hd]
    exact (List.getElem?_map (f := LineFunc.byte) (l := [a, b, c, d])).trans (by rw [hfn]; rfl)
  · rw [hbody]
    exact answered_accept (u := u) rfl _ _

/-- Settles O26: LINES from its action. -/
theorem linesSetFunctions : Obligations.LinesSetFunctions := fun s tag o =>
  ⟨lines_request s tag o, fun _ => wrongLength_of_withOps rfl rfl⟩

end Sys2Proof.Claims
end

-- ==== Proofs: the limits that a take fires ====
section
/-!
O41. One limit of the alert check, then the check of both: what joins the alert queue, the limits it leaves and the
notices it offers. What a take does after its alert check touches none of these.
-/

namespace Sys2Proof.Claims

open Sys2Proof.Machine

/-! ## Notices of alerts -/

/-- The link after the notice of an alert record is offered where they are enabled (R114). -/
theorem alertNotice_eq (s : State) (event : AlertEvent) (a : AlertRec) :
    s.alertNotice event a = s.setFli (if s.fli.mask.alert then
      offered s.fli (.alert event (s.slot a.slot).symbol a s.fau.alerts.length) else s.fli) := by
  unfold State.alertNotice
  split
  · exact State.offer_eq ..
  · rfl

theorem offered_mask (f : Fli) (n : OutEntry) : (offered f n).mask = f.mask := by
  unfold offered
  split <;> rfl

/-- The link after the FIRED notices of records that join the alert queue one after another behind `k` others, offered if
they are enabled (R114). -/
def firedNotices (symbol : List Byte) (k : Nat) (recs : List AlertRec) (f : Fli) : Fli :=
  if f.mask.alert then
    recs.zipIdx.foldl (fun f a => offered f (.alert .fired symbol a.1 (k + a.2 + 1))) f
  else f

theorem firedNotices_nil (symbol : List Byte) (k : Nat) (f : Fli) : firedNotices symbol k [] f = f := ite_self _

theorem firedNotices_mask (symbol : List Byte) (k : Nat) (recs : List AlertRec) (f : Fli) :
    (firedNotices symbol k recs f).mask = f.mask := by
  unfold firedNotices
  split
  · exact List.foldlRecOn (motive := fun g => g.mask = f.mask) _ _ rfl fun g hg a _ => (offered_mask g _).trans hg
  · rfl

theorem firedNotices_append (symbol : List Byte) (k : Nat) (recs recs' : List AlertRec) (f : Fli) :
    firedNotices symbol k (recs ++ recs') f =
      firedNotices symbol (k + recs.length) recs' (firedNotices symbol k recs f) := by
  have hmask := firedNotices_mask symbol k recs f
  by_cases hm : f.mask.alert = true
  · rw [firedNotices, if_pos hm, firedNotices, if_pos (hmask ▸ hm), firedNotices, if_pos hm, List.zipIdx_append,
      List.foldl_append, Nat.zero_add, List.zipIdx_eq_map_add (l := recs'), List.foldl_map]
    simp only [Nat.add_assoc, Nat.add_comm recs.length]
  · rw [firedNotices, if_neg hm, firedNotices, if_neg (hmask ▸ hm), firedNotices, if_neg hm]

/-! ## The alert check -/

/-- The records of limits of slot `n` that fire at a LAST of `v` (R113). -/
def recordsOf (n : Nat) (v : Int) (frame : FrameNo) (l : List (Side × Int)) : List AlertRec :=
  l.map fun x => ⟨n, x.1, x.2, v, frame⟩

/-- The records `recs` of slot `n` join the alert queue, each with its notice (R113, R114). -/
structure Records (s t : State) (n : Nat) (recs : List AlertRec) : Prop where
  alerts : t.fau.alerts = s.fau.alerts ++ recs
  fli : t.fli = firedNotices (s.slot n).symbol s.fau.alerts.length recs s.fli
  symbol : (t.slot n).symbol = (s.slot n).symbol
  frame : t.cme.frame = s.cme.frame

namespace Records

variable {s t u : State} {n : Nat} {recs recs' : List AlertRec}

theorem refl (s : State) (n : Nat) : Records s s n [] :=
  ⟨(List.append_nil _).symm, (firedNotices_nil ..).symm, rfl, rfl⟩

theorem trans (h : Records s t n recs) (h' : Records t u n recs') : Records s u n (recs ++ recs') where
  alerts := by rw [h'.alerts, h.alerts, List.append_assoc]
  fli := by rw [h'.fli, h.fli, h.symbol, h.alerts, List.length_append, firedNotices_append]
  symbol := h'.symbol.trans h.symbol
  frame := h'.frame.trans h.frame

/-- Cells and flashes have no part in it. -/
theorem flash (h : Records s t n recs) (hf : SameButFlash t u) : Records s u n recs where
  alerts := hf.alerts_eq.trans h.alerts
  fli := by
    rw [hf]
    exact h.fli
  symbol := by
    rw [hf.slot]
    exact h.symbol
  frame := by
    rw [hf]
    exact h.frame

end Records

theorem records_fire (s : State) (n : Nat) (side : Side) (level v : Int) :
    Records s (s.fire n side level v) n [⟨n, side, level, v, s.cme.frame⟩] := by
  let a : AlertRec := ⟨n, side, level, v, s.cme.frame⟩
  let s1 := s.setSlot n ((s.slot n).setLimit side (.fired level))
  let s2 := s1.setFau { s1.fau with alerts := s1.fau.alerts ++ [a] }
  have hflash : SameButFlash s2 (s2.alertFlash n) := State.alertFlash_frame ..
  have hsymbol : ((s2.alertFlash n).slot n).symbol = (s.slot n).symbol := by
    rw [hflash.slot]
    change (s1.slot n).symbol = _
    rw [State.slot_setSlot, if_pos rfl, Slot.setLimit_eq]
  have halerts : (s2.alertFlash n).fau.alerts = s.fau.alerts ++ [a] := hflash.alerts_eq
  have hfli : (s2.alertFlash n).fli = s.fli := by rw [hflash]; rfl
  have heq : s.fire n side level v = _ := alertNotice_eq (s2.alertFlash n) .fired a
  rw [heq, hfli, hsymbol, halerts, List.length_append]
  exact ⟨halerts, rfl, hsymbol, by rw [hflash]; rfl⟩

/-- One limit of the alert check: its record if it fires (R113). -/
theorem records_checkLimit (s : State) (n : Nat) (v : Int) (side : Side) :
    Records s (s.checkLimit n v side) n (recordsOf n v s.cme.frame (firingOn (s.slot n) v side)) := by
  unfold State.checkLimit firingOn
  cases (s.slot n).limit side with
  | disarmed => exact .refl s n
  | fired l => exact .refl s n
  | armed l =>
    simp only
    split
    · exact records_fire ..
    · exact .refl s n

theorem firingOn_congr {r r' : Slot} {side : Side} (h : r.limit side = r'.limit side) (v : Int) :
    firingOn r v side = firingOn r' v side := by
  unfold firingOn
  rw [h]

/-- The check of both limits: their records, HIGH first (R113). -/
theorem records_alertCheck (s : State) (n : Nat) (v : Int) :
    Records s (s.alertCheck n v) n (recordsOf n v s.cme.frame (firing (s.slot n) v)) := by
  have hhigh := records_checkLimit s n v .high
  have hlow := records_checkLimit (s.checkLimit n v .high) n v .low
  rw [hhigh.frame, firingOn_congr (limit_checkLimit_of_ne s n v (by decide))] at hlow
  rw [firing_eq, recordsOf, List.map_append]
  exact hhigh.trans hlow

/-! ## The limits after the alert check -/

/-- The limit that fires, if there is one, is the one looked at. -/
theorem find_firingOn (r : Slot) (v : Int) (side side' : Side) :
    (firingOn r v side).find? (fun x => x.1 = side') = if side' = side then (firingOn r v side).head? else none := by
  unfold firingOn
  split
  · split
    · by_cases h : side = side' <;> simp [h, eq_comm]
    · simp
  · simp
  · simp

theorem limit_checkLimit (s : State) (n : Nat) (v : Int) (side : Side) :
    ((s.checkLimit n v side).slot n).limit side =
      (firingOn (s.slot n) v side).head?.elim ((s.slot n).limit side) fun x => .fired x.2 := by
  unfold State.checkLimit firingOn
  split
  · split
    · next l _ _ =>
      rw [State.slot_congr (State.fire_slots ..), State.limit_setLimit, if_pos ⟨rfl, rfl⟩]
      rfl
    · rfl
  · rfl
  · rfl

theorem limit_alertCheck (s : State) (n : Nat) (v : Int) (side : Side) :
    ((s.alertCheck n v).slot n).limit side =
      ((firing (s.slot n) v).find? fun x => x.1 = side).elim ((s.slot n).limit side) fun x => .fired x.2 := by
  unfold State.alertCheck
  rw [firing_eq, List.find?_append, find_firingOn, find_firingOn]
  cases side with
  | high =>
    rw [limit_checkLimit_of_ne _ n v (by decide), limit_checkLimit]
    simp
  | low =>
    have hlow := limit_checkLimit_of_ne s n v (side := .high) (side' := .low) (by decide)
    rw [limit_checkLimit, hlow, firingOn_congr hlow]
    simp

/-! ## The take -/

/-- The values stored, the slot has its limits and its symbol, and no limit has fired yet. -/
theorem records_stored (s : State) (n : Nat) : Records s (s.stored n) n [] where
  alerts := (List.append_nil _).symm
  fli := (firedNotices_nil ..).symm
  symbol := by rw [State.stored, State.slot_setSlot, if_pos rfl, Slot.taken_eq]
  frame := rfl

theorem limit_stored (s : State) (n : Nat) (side : Side) : ((s.stored n).slot n).limit side = (s.slot n).limit side := by
  rw [State.stored, State.slot_setSlot, if_pos rfl, (Slot.taken_keeps _ _ _).limit]

theorem firing_stored (s : State) (n : Nat) (v : Int) : firing ((s.stored n).slot n) v = firing (s.slot n) v := by
  rw [firing_eq, firing_eq, firingOn_congr (limit_stored s n .high), firingOn_congr (limit_stored s n .low)]

theorem alertCheckOf_pendingOf (s t : State) (n : Nat) :
    t.alertCheckOf n (s.pendingOf n) = (s.pendingValue n 2).elim t fun v => t.alertCheck n v := by
  unfold State.alertCheckOf
  rw [find_last_pendingOf]
  cases s.pendingValue n 2 <;> rfl

/-- After its alert check a take changes cells and flashes only. -/
theorem take_flash (s : State) (n : Nat) :
    SameButFlash ((s.pendingValue n 2).elim (s.stored n) fun v => (s.stored n).alertCheck n v) (s.take n) := by
  rw [← alertCheckOf_pendingOf]
  exact (s.started_frame n).trans (State.paintSlot_frame (s.started n) n).flash

/-- The records, each made of a limit that fires with its level and the new LAST. -/
theorem recordsOf_eq (n : Nat) (v : Int) (frame : FrameNo) (l : List (Side × Int)) :
    recordsOf n v frame l = (l.map fun x => (x, v)).map fun x => ⟨n, x.1.1, x.1.2, x.2, frame⟩ := by
  rw [List.map_map]
  rfl

/-- Settles O41: a take stores, checks the limits where it has a LAST, and then changes cells and flashes only. -/
theorem takeFiresLimits : Obligations.TakeFiresLimits := by
  intro s n htake
  refine ⟨s.take n, exec_commitStep htake, ?_⟩
  have hflash := take_flash s n
  have hslot := fun side => congrArg (Slot.limit · side) (hflash.slot n)
  cases hv : s.pendingValue n 2 with
  | none =>
    rw [hv] at hflash hslot
    have hrec := (records_stored s n).flash hflash
    exact ⟨hrec.alerts, fun side => (hslot side).trans (limit_stored ..), hrec.fli⟩
  | some v =>
    rw [hv] at hflash hslot
    have hrec := ((records_stored s n).trans (records_alertCheck (s.stored n) n v)).flash hflash
    rw [List.nil_append, firing_stored, recordsOf_eq] at hrec
    refine ⟨hrec.alerts, fun side => (hslot side).trans ?_, hrec.fli⟩
    have hlimit := limit_alertCheck (s.stored n) n v side
    rw [firing_stored, limit_stored] at hlimit
    refine hlimit.trans ?_
    rw [Option.elim_some, List.find?_map]
    change _ = match ((firing (s.slot n) v).find? fun x => x.1 = side).map fun x => (x, v) with
      | some x => Limit.fired x.1.2
      | none => (s.slot n).limit side
    cases (firing (s.slot n) v).find? fun x => x.1 = side <;> rfl

end Sys2Proof.Claims
end

-- ==== Proofs: acknowledging ====
section
/-!
O23, O49. An acknowledgement ends the entries that go with the limit, of which there is one at most: what their end
leaves in the table, the age order and the cells. Then ACK, and the ACK key with its notices.
-/

namespace Sys2Proof.Claims

open Sys2Proof.Machine

/-! ## References where entries end -/

/-- Where the entries of the indices `l` end and the others keep slot and field, the references lost are those to an entry
of `l` with the cell in its spans. -/
theorem lostReference_iff {s t : State} {l : List Nat} (hended : ∀ i ∈ l, t.flashEntry i = none)
    (hkept : ∀ i x, s.flashEntry i = some x → i ∉ l →
      ∃ y, t.flashEntry i = some y ∧ y.slot = x.slot ∧ y.field = x.field) (k : Nat) :
    lostReference s t k ↔ ∃ i ∈ l, (s.cell k).ref = some i ∧ (s.flashEntry i).any (spansHold · k) = true := by
  constructor
  · rintro ⟨i, x, href, hx, hgone, hsp⟩
    refine ⟨i, ?_, href, by rw [hx]; exact spansHold_iff.mpr hsp⟩
    by_contra hi
    obtain ⟨y, hy, hsame⟩ := hkept i x hx hi
    exact hgone y hy hsame
  · rintro ⟨i, hi, href, hany⟩
    obtain ⟨x, hx, hk⟩ := (Option.any_eq_true ..).mp hany
    exact ⟨i, x, href, hx, fun y hy => (nomatch (hended i hi).symm.trans hy), spansHold_iff.mp hk⟩

/-- Then the cells of the spans that name them lose the reference, and no other cell changes (R106). -/
theorem keepsOrLosesReference_of_ended {s t : State} {l : List Nat} (hended : ∀ i ∈ l, t.flashEntry i = none)
    (hkept : ∀ i x, s.flashEntry i = some x → i ∉ l →
      ∃ y, t.flashEntry i = some y ∧ y.slot = x.slot ∧ y.field = x.field) {k : Nat}
    (hcell : t.cell k =
      if ∃ i ∈ l, (s.cell k).ref = some i ∧ (s.flashEntry i).any (spansHold · k) = true then
        { s.cell k with ref := none }
      else s.cell k) : keepsOrLosesReference s t k := by
  have hlost := lostReference_iff hended hkept k
  exact ⟨fun h => hcell.trans (if_pos (hlost.mp h)), fun h => hcell.trans (if_neg (mt hlost.mpr h))⟩

/-- The entries that satisfy `p` have ended, and nothing else has changed. -/
structure EndedWhere (s t : State) (p : FlashEntry → Bool) : Prop where
  frame : SameButFlash s t
  entry : ∀ i, t.flashEntry i = (s.flashEntry i).filter fun x => !p x
  order : t.fau.order = s.fau.order.filter fun i => !((s.flashEntry i).any p)
  cell : ∀ k, keepsOrLosesReference s t k

theorem AllEnded.endedWhere {s t : State} {l : List Nat} {p : FlashEntry → Bool} (h : AllEnded s t l)
    (hp : ∀ i, i ∈ l ↔ (s.flashEntry i).any p = true) : EndedWhere s t p := by
  have hentry : ∀ i, t.flashEntry i = (s.flashEntry i).filter fun x => !p x := fun i => by
    rw [h.entry]
    simp only [hp]
    cases hx : s.flashEntry i with
    | none => simp
    | some x => cases hpx : p x <;> simp [Option.filter_some, hpx]
  refine ⟨h.frame, hentry, ?_, fun k => keepsOrLosesReference_of_ended (fun i hi => by rw [h.entry, if_pos hi])
    (fun i x hx hi => ⟨x, by rw [h.entry, if_neg hi, hx], rfl, rfl⟩) (h.cell k)⟩
  rw [h.order]
  exact List.filter_congr fun i _ => by simp [hp]

/-! ## The entries that an acknowledgement ends -/

/-- What the flash table shows of the ALERT entries: each is the LAST entry of its slot, and a slot and field have one
entry at most (R100). -/
structure AlertsUnique (s : State) : Prop where
  wf : Table.wf none s.fau.flash = true
  field : ∀ {i x}, s.flashEntry i = some x → x.kind = .alert → x.field = .last
  distinct : ∀ {i j x y}, s.flashEntry i = some x → s.flashEntry j = some y → x.slot = y.slot → x.field = y.field → i = j

theorem alertsUnique_of_flashLaw {s : State} (h : s.flashLaw) : AlertsUnique s := by
  obtain ⟨hwf, hentry, hpairs, -⟩ := h
  refine ⟨hwf, fun hx hk => (entryLaw_iff.mp ((hentry _ (State.mem_flash hx)).2 _ rfl)).1.alert hk,
    fun {i j x y} hx hy hs hf => ?_⟩
  by_contra hij
  have hpair := (Table.pairwise_iff hwf (R := fun a b => ∀ x ∈ a, ∀ y ∈ b, x.slot ≠ y.slot ∨ x.field ≠ y.field)
    fun a b hab x hx y hy => (hab y hy x hx).imp Ne.symm Ne.symm).mp hpairs i j hij
  exact (hpair (ne_of_eq_of_ne hx nofun) (ne_of_eq_of_ne hy nofun) x hx y hy).elim (· hs) (· hf)

/-- The entry is the ALERT entry of slot `n`. -/
def alertOf (n : Nat) (x : FlashEntry) : Bool := decide (x.slot = n) && decide (x.kind = .alert)

theorem alertOf_iff {n : Nat} {x : FlashEntry} : alertOf n x = true ↔ x.slot = n ∧ x.kind = .alert := by
  simp [alertOf]

/-- The end of a slot's ALERT entry ends the entries that are that, as there is one at most (R115). -/
theorem endedWhere_endAlertFlash {s : State} (hc : Table.wf .blank s.cst.cells = true) (h : AlertsUnique s) (n : Nat) :
    EndedWhere s (s.endAlertFlash n) (alertOf n) := by
  have hended : ∀ l : List Nat, l.Nodup → (∀ i, i ∈ l ↔ (s.flashEntry i).any (alertOf n) = true) →
      EndedWhere s (l.foldl State.endFlash s) (alertOf n) := fun l hl hmem =>
    (endAll hc hl fun i hi => (Option.any_eq_true ..).mp ((hmem i).mp hi) |>.elim
      fun x hx => Option.isSome_iff_exists.mpr ⟨x, hx.1⟩).endedWhere hmem
  unfold State.endAlertFlash
  split
  · next hfind =>
    refine hended [] List.nodup_nil fun i => ⟨nofun, fun hany => ?_⟩
    obtain ⟨x, hx, halert⟩ := (Option.any_eq_true ..).mp hany
    obtain ⟨hn, hk⟩ := alertOf_iff.mp halert
    exact absurd (h.field hx hk) (State.find_none hfind i x hx hn)
  · next i hfind =>
    obtain ⟨e, he, hes, hef⟩ := State.find_some h.wf hfind
    have honly : ∀ j, (s.flashEntry j).any (alertOf n) = true → j = i := fun j hany => by
      obtain ⟨x, hx, halert⟩ := (Option.any_eq_true ..).mp hany
      obtain ⟨hn, hk⟩ := alertOf_iff.mp halert
      exact h.distinct hx he (hn.trans hes.symm) ((h.field hx hk).trans hef.symm)
    have hi : (s.flashEntry i).any (alertOf n) = (s.flashEntry i).any fun x => x.kind == .alert := by
      simp [he, alertOf, hes, beq_eq_decide]
    split
    · next hk =>
      exact hended [i] (List.nodup_singleton i) fun j =>
        ⟨fun hj => List.mem_singleton.mp hj ▸ hi.trans hk, fun hj => List.mem_singleton.mpr (honly j hj)⟩
    · next hk =>
      exact hended [] List.nodup_nil fun j =>
        ⟨nofun, fun hj => absurd (hi.symm.trans (honly j hj ▸ hj)) hk⟩

/-! ## The acknowledgement -/

/-- The entry ends where limit `side` of slot `n` is acknowledged: it is the slot's ALERT entry, and the other limit is
not FIRED (R115). -/
def endsAt (s : State) (n : Nat) (side : Side) (x : FlashEntry) : Bool :=
  decide (x.slot = n) && decide (x.kind = .alert) && !((s.slot n).limit side.other).isFired

/-- What an acknowledgement leaves (R106, R115). -/
structure Acknowledged (s t : State) (n : Nat) (side : Side) : Prop where
  frame : t = { s with
    cst := { s.cst with cells := t.cst.cells }
    itb := { s.itb with slots := t.itb.slots }
    fau := { t.fau with alerts := s.fau.alerts.filter fun a => !(decide (a.slot = n) && decide (a.side = side)) } }
  slot : ∀ m, t.slot m = if m = n then withLimit (s.slot n) side .disarmed else s.slot m
  entry : ∀ i, t.flashEntry i = (s.flashEntry i).filter fun x => !endsAt s n side x
  order : t.fau.order = s.fau.order.filter fun i => !((s.flashEntry i).any (endsAt s n side))
  cell : ∀ k, keepsOrLosesReference s t k

/-- The record gone and the limit disarmed, before any entry ends (R115). -/
def unfired (s : State) (n : Nat) (side : Side) : State :=
  (s.setFau { s.fau with alerts := s.fau.alerts.filter fun a => !a.names n side }).setSlot n
    ((s.slot n).setLimit side .disarmed)

theorem acknowledge_eq (s : State) (n : Nat) (side : Side) :
    s.acknowledge n side =
      if ((s.slot n).limit side.other).isFired then unfired s n side else (unfired s n side).endAlertFlash n := by
  have hother : ((unfired s n side).slot n).limit side.other = (s.slot n).limit side.other := by
    have hne : side.other ≠ side := by cases side <;> exact nofun
    exact (State.limit_setLimit ..).trans (if_neg fun h => hne h.2)
  rw [← hother]
  rfl

/-- After the record has gone the acknowledgement ends the entries that go with the limit. -/
theorem endedWhere_acknowledge {s : State} (hc : Table.wf .blank s.cst.cells = true) (h : AlertsUnique s) (n : Nat)
    (side : Side) : EndedWhere (unfired s n side) (s.acknowledge n side) (endsAt s n side) := by
  rw [acknowledge_eq]
  split
  · next hfired =>
    have hno : endsAt s n side = fun _ => false := funext fun x => by simp [endsAt, hfired]
    rw [hno]
    exact (endAll (s := unfired s n side) hc List.nodup_nil nofun).endedWhere fun i => by
      cases (unfired s n side).flashEntry i <;> simp
  · next hunfired =>
    have hends : endsAt s n side = alertOf n := funext fun x => by simp [endsAt, alertOf, hunfired]
    rw [hends]
    exact endedWhere_endAlertFlash (s := unfired s n side) hc ⟨h.wf, h.field, h.distinct⟩ n

theorem acknowledged {s : State} (hc : Table.wf .blank s.cst.cells = true) (h : AlertsUnique s) (n : Nat)
    (side : Side) : Acknowledged s (s.acknowledge n side) n side := by
  obtain ⟨hframe, hentry, horder, hcell⟩ := endedWhere_acknowledge hc h n side
  refine ⟨?_, fun m => ?_, hentry, horder, hcell⟩
  · rw [hframe]
    rfl
  · rw [hframe.slot, withLimit_eq]
    exact State.slot_setSlot ..

/-! ## ACK -/

theorem ackAction_badValue {o : AckOps} (s : State) (h : ¬ o.limit.toNat ≤ 1) :
    ackAction o s = refuse .badValue s := by
  unfold ackAction
  rw [side?_eq_none h]

theorem ackAction_eq {o : AckOps} (s : State) (h : o.limit.toNat ≤ 1) :
    ackAction o s =
      if (s.slot o.slot.toNat).defined then
        if ((s.slot o.slot.toNat).limit (sideOf o.limit)).isFired then
          accept (.left (s.acknowledge o.slot.toNat (sideOf o.limit)).fau.alerts.length)
            (s.acknowledge o.slot.toNat (sideOf o.limit))
        else refuse .notFired s
      else refuse .noSlot s := by
  unfold ackAction
  rw [side?_eq_some.mpr ⟨h, rfl⟩]

theorem ack_request {s : State} (hc : Table.wf .blank s.cst.cells = true) (h : AlertsUnique s) (tag : Byte)
    (o : AckOps) :
    Request (.ack tag (.ops o)) s
      [(decide (o.limit.toNat ≤ 1), .badValue), (decide ((s.slot o.slot.toNat).state ≠ .free), .noSlot),
       (((s.slot o.slot.toNat).limit (sideOf o.limit)).isFired, .notFired)] (fun f t =>
      let n := o.slot.toNat
      let side := sideOf o.limit
      Answered s t f (.left t.fau.alerts.length) ∧
      t = { s with
        fli := t.fli
        cst := { s.cst with cells := t.cst.cells }
        itb := { s.itb with slots := t.itb.slots }
        fau := { t.fau with alerts := s.fau.alerts.filter fun a => !(decide (a.slot = n) && decide (a.side = side)) } } ∧
      (∀ m, t.slot m = if m = n then withLimit (s.slot n) side .disarmed else s.slot m) ∧
      (∀ i, t.flashEntry i = (s.flashEntry i).filter fun x => !endsAt s n side x) ∧
      t.fau.order = s.fau.order.filter (fun i => !((s.flashEntry i).any (endsAt s n side))) ∧
      ∀ k, keepsOrLosesReference s t k) := by
  refine request_of_answers (act := ackAction o) rfl rfl (.check (fun hbad => ?_) fun hok => ?_)
  · exact ackAction_badValue _ (of_decide_eq_false hbad)
  have heq := ackAction_eq s.dropHead (of_decide_eq_true hok)
  rw [State.slot_dropHead, defined_eq] at heq
  refine .check (fun hfree => ?_) fun hdef => ?_
  · exact heq.trans (if_neg (by simpa using hfree))
  replace heq := heq.trans (if_pos hdef)
  refine .check (fun hunfired => ?_) fun hfired => ?_
  · exact heq.trans (if_neg (by simpa using hunfired))
  · obtain ⟨hframe, hslot, hentry, horder, hcell⟩ :=
      acknowledged (s := s.dropHead) hc ⟨h.wf, h.field, h.distinct⟩ o.slot.toNat (sideOf o.limit)
    refine .accepted _ _ (heq.trans (if_pos hfired)) ⟨?_, ?_, hslot, hentry, horder, hcell⟩
    · refine answered_accept ?_ _ _
      rw [hframe]
    · rw [finish_accept, hframe]
      rfl

/-- Settles O23: ACK from its action, check by check, an accepted one from the acknowledgement. -/
theorem ackAcknowledges : Obligations.AckAcknowledges := fun s tag o hcan hf =>
  ⟨ack_request ((canonical_iff s).mp hcan).cells (alertsUnique_of_flashLaw hf) tag o,
    fun _ => wrongLength_of_withOps rfl rfl⟩

end Sys2Proof.Claims
end

-- ==== Proofs: the ACK key ====
section
/-!
O49. The report of an edge as a change of the link, then the ACK key: an acknowledgement of the head record followed by
its two notices, in one order or the other.
-/

namespace Sys2Proof.Claims

open Sys2Proof.Machine

/-! ## The report of an edge -/

/-- The edge of a line as its definition reports it (R179, R181, R188). -/
theorem edgeReported_lineNotice (s : State) (l : Nat) : edgeReported s.fli l (s.line l) (s.lineNotice l).fli := by
  have hsent : s.fli.sentCount = if s.fli.sending = none then 0 else 1 := by
    unfold Fli.sentCount
    cases s.fli.sending <;> rfl
  unfold edgeReported State.lineNotice
  simp only [← hsent]
  split
  · refine congrArg (fun es => { s.fli with outQ := s.fli.outQ.take s.fli.sentCount ++ es }) ?_
    exact List.map_congr_left fun e _ => by cases e <;> rfl
  · split
    · rw [State.offer_eq]
      rfl
    · rfl

/-! ## The ACK key -/

/-- The edge acknowledges the head record, and then offers the two notices in one order or the other, which may draw a
free choice (log 6). -/
theorem ackEdge_cases {s : State} {a : AlertRec} {rest : List AlertRec} (h : s.fau.alerts = a :: rest) (l : Nat) :
    ∃ c, let t := { s.acknowledge a.slot a.side with choices := c }
      s.ackEdge l = (t.keyackNotice a).lineNotice l ∨ s.ackEdge l = (t.lineNotice l).keyackNotice a := by
  have hhead : s.acknowledgeHead = s.acknowledge a.slot a.side := by
    unfold State.acknowledgeHead
    rw [h]
  unfold State.ackEdge
  rw [h]
  simp only [hhead]
  split
  · refine ⟨(s.acknowledge a.slot a.side).draw.choices, ?_⟩
    split
    · exact .inl rfl
    · exact .inr rfl
  · exact ⟨(s.acknowledge a.slot a.side).choices, .inl rfl⟩

/-- No other record names the limit of the head record (R114). -/
theorem alerts_after_head {s : State} (h : s.alertLaw) {a : AlertRec} {rest : List AlertRec}
    (ha : s.fau.alerts = a :: rest) :
    (s.fau.alerts.filter fun b => !(decide (b.slot = a.slot) && decide (b.side = a.side))) = rest := by
  obtain ⟨-, -, -, hdistinct⟩ := h
  rw [ha] at hdistinct ⊢
  rw [List.filter_cons_of_neg (by simp)]
  refine List.filter_eq_self.mpr fun b hb => ?_
  rcases (List.pairwise_cons.mp hdistinct).1 b hb with hne | hne <;> simp [hne.symm]

/-- The KEYACK notice of a record, offered where ALERT notices are enabled (R116). -/
def keyacked (symbol : List Byte) (a : AlertRec) (left : Nat) (f : Fli) : Fli :=
  if f.mask.alert then offered f (.alert .keyack symbol a left) else f

theorem fli_keyackNotice (s : State) (a : AlertRec) :
    (s.keyackNotice a).fli = keyacked (s.slot a.slot).symbol a s.fau.alerts.length s.fli :=
  congrArg State.fli (alertNotice_eq s .keyack a)

/-- The two notices change the link only, and report both in the order of their offers. -/
theorem ackEdge_notices {s t : State} {a : AlertRec} {l : Nat}
    (ht : t = (s.keyackNotice a).lineNotice l ∨ t = (s.lineNotice l).keyackNotice a) :
    let key := keyacked (s.slot a.slot).symbol a s.fau.alerts.length
    SameButNotices s t ∧
      (edgeReported (key s.fli) l (s.line l) t.fli ∨ ∃ g, edgeReported s.fli l (s.line l) g ∧ t.fli = key g) := by
  have hkey := State.alertNotice_frame s .keyack a
  have hline := State.lineNotice_frame s l
  rcases ht with rfl | rfl
  · refine ⟨hkey.trans (State.lineNotice_frame ..), .inl ?_⟩
    have hreport := edgeReported_lineNotice (s.keyackNotice a) l
    rw [fli_keyackNotice] at hreport
    have hsame : (s.keyackNotice a).line l = s.line l := by
      unfold State.keyackNotice
      rw [hkey]
      rfl
    rwa [hsame] at hreport
  · refine ⟨hline.trans (State.alertNotice_frame ..), .inr ⟨_, edgeReported_lineNotice s l, ?_⟩⟩
    have hitb : (s.lineNotice l).itb = s.itb := by rw [hline]
    have hfau : (s.lineNotice l).fau = s.fau := by rw [hline]
    rw [fli_keyackNotice, State.slot_congr (congrArg Itb.slots hitb), hfau]

theorem keepsOrLosesReference_congr {s t u : State} {k : Nat} (h : keepsOrLosesReference s t k)
    (hcells : u.cst.cells = t.cst.cells) (hflash : u.fau.flash = t.fau.flash) : keepsOrLosesReference s u k := by
  unfold keepsOrLosesReference lostReference
  simp only [State.cell_congr hcells, State.flashEntry_congr hflash]
  exact h

/-- What the ACK key leaves of the head record `a` before the records `rest`: the acknowledgement, and the two notices in
one order or the other (R115, R116, R187). -/
structure KeyAcknowledged (s t : State) (l : Nat) (a : AlertRec) (rest : List AlertRec) : Prop where
  frame : t = { s with
    choices := t.choices
    fli := t.fli
    cst := { s.cst with cells := t.cst.cells }
    itb := { s.itb with slots := t.itb.slots }
    fau := { t.fau with alerts := rest } }
  slot : ∀ m, t.slot m = if m = a.slot then withLimit (s.slot m) a.side .disarmed else s.slot m
  entry : ∀ i, t.flashEntry i = (s.flashEntry i).filter fun x => !endsAt s a.slot a.side x
  order : t.fau.order = s.fau.order.filter fun i => !((s.flashEntry i).any (endsAt s a.slot a.side))
  cell : ∀ k, keepsOrLosesReference s t k
  notices :
    let key := keyacked (s.slot a.slot).symbol a rest.length
    edgeReported (key s.fli) l (s.line l) t.fli ∨ ∃ g, edgeReported s.fli l (s.line l) g ∧ t.fli = key g

theorem keyAcknowledged {s : State} (hc : Table.wf .blank s.cst.cells = true) (h : AlertsUnique s) (hal : s.alertLaw)
    {a : AlertRec} {rest : List AlertRec} (halerts : s.fau.alerts = a :: rest) (l : Nat) :
    KeyAcknowledged s (s.ackEdge l) l a rest := by
  obtain ⟨hframe, hslot, hentry, horder, hcell⟩ := acknowledged hc h a.slot a.side
  rw [alerts_after_head hal halerts] at hframe
  obtain ⟨c, hcases⟩ := ackEdge_cases halerts l
  let u : State := { s.acknowledge a.slot a.side with choices := c }
  have hu : u = { s with
      choices := c
      cst := { s.cst with cells := u.cst.cells }
      itb := { s.itb with slots := u.itb.slots }
      fau := { u.fau with alerts := rest } } := congrArg (fun t : State => { t with choices := c }) hframe
  have hslots : ∀ m, u.slot m = if m = a.slot then withLimit (s.slot m) a.side .disarmed else s.slot m := fun m =>
    (hslot m).trans (ite_congr rfl (fun hm => hm ▸ rfl) fun _ => rfl)
  obtain ⟨hnotices, hreport⟩ := ackEdge_notices (s := u) hcases
  have htable : (s.ackEdge l).itb.slots = u.itb.slots := by rw [hnotices]
  have hfau : (s.ackEdge l).fau = u.fau := by rw [hnotices]
  have hcst : (s.ackEdge l).cst = u.cst := by rw [hnotices]
  refine
    { frame := by rw [hnotices, hu]
      slot := fun m => (State.slot_congr htable m).trans (hslots m)
      entry := fun i => (State.flashEntry_congr (congrArg Fau.flash hfau) i).trans (hentry i)
      order := (congrArg Fau.order hfau).trans horder
      cell := fun k => keepsOrLosesReference_congr (hcell k) (congrArg Cst.cells hcst) (congrArg Fau.flash hfau)
      notices := ?_ }
  have hfli : u.fli = s.fli := (congrArg State.fli hu).trans rfl
  have hline : u.line l = s.line l := (congrArg (fun t : State => t.line l) hu).trans rfl
  have hleft : u.fau.alerts = rest := congrArg (fun t => t.fau.alerts) hu
  have hsymbol : (u.slot a.slot).symbol = (s.slot a.slot).symbol := by
    rw [hslots, if_pos rfl]
    rfl
  rw [hfli, hleft, hsymbol, hline] at hreport
  exact hreport

/-- A falling edge of an ACK line is noted in the line and handed to the ACK key (R116, R187). -/
theorem exec_debounceExpiry_ack {s : State} {l : Fin 4} (htimer : (s.line l.val).timer = true)
    (hpin : (s.line l.val).pin = .low) (hlevel : (s.line l.val).level = .high) (hfunc : (s.line l.val).func = .ack) :
    exec (.debounceExpiry l) s = .next ((s.setLine l.val (s.line l.val).edge).ackEdge l.val) := by
  have hdue : (s.line l.val).edgeDue = true := by simp [Line.edgeDue, htimer, hpin, hlevel]
  change execDebounceExpiry l s = _
  unfold execDebounceExpiry State.debouncedEdge
  rw [if_pos hdue]
  exact congrArg Host.Outcome.next (if_pos ⟨hfunc, hpin⟩)

/-- Settles O49: the edge noted in its line, then what the ACK key leaves. -/
theorem ackKeyAcknowledgesHead : Obligations.AckKeyAcknowledgesHead := by
  intro s l a rest x y htimer hpin hlevel hfunc halerts hcan hal hf
  obtain ⟨hframe, hslot, hentry, horder, hcell, hnotices⟩ :=
    keyAcknowledged (s := s.setLine l.val y) ((canonical_iff s).mp hcan).cells (alertsUnique_of_flashLaw hf) hal halerts
      l.val
  have hline : ∀ m, (s.setLine l.val y).line m = if m = l.val then y else s.line m := fun m => Table.get_set ..
  rw [hline, if_pos rfl] at hnotices
  refine ⟨(s.setLine l.val y).ackEdge l.val, exec_debounceExpiry_ack htimer hpin hlevel hfunc, ?_, fun m => ?_, hslot,
    ⟨hentry, horder⟩, hcell, hnotices⟩
  · rw [hframe]
    rfl
  · rw [← hline, hframe]
    rfl

end Sys2Proof.Claims
end

-- ==== Proofs: the decay of flashes ====
section
/-!
O35. Decay goes through the entries one after another, lowering some in place and ending others: the cells and the age
order are those that the ends alone leave. After it a frame start writes cells only where a slot turns STALE.
-/

namespace Sys2Proof.Claims

open Sys2Proof.Machine

/-! ## One entry -/

/-- The entry after the frame start numbered `now`, if it does not end (R105). -/
def decayed (now : FrameNo) (x : FlashEntry) : Option FlashEntry :=
  match x.kind with
  | .alert => some x
  | .moving k len rem start =>
    if start = now then some x
    else if rem ≤ 1 then none
    else some { x with kind := .moving k len (rem - 1) start }

/-- Decay lowers an entry in place: its slot and field stay. -/
theorem decayed_keeps {now : FrameNo} {x y : FlashEntry} (h : decayed now x = some y) :
    y.slot = x.slot ∧ y.field = x.field := by
  unfold decayed at h
  split at h
  · cases h
    exact ⟨rfl, rfl⟩
  · split at h
    · cases h
      exact ⟨rfl, rfl⟩
    · split at h
      · exact nomatch h
      · cases h
        exact ⟨rfl, rfl⟩

/-- An entry ends, or its record is replaced and no cell, no place in the age order and no other entry changes (R105). -/
theorem decayEntry_cases {s : State} {i : Nat} {x : FlashEntry} (hx : s.flashEntry i = some x) (now : FrameNo) :
    (decayed now x = none ∧ s.decayEntry now i = s.endFlash i) ∨
      ∃ y, decayed now x = some y ∧ (s.decayEntry now i).cst = s.cst ∧
        (s.decayEntry now i).fau.order = s.fau.order ∧
        ∀ j, (s.decayEntry now i).flashEntry j = if j = i then some y else s.flashEntry j := by
  have hstays : ∀ j, s.flashEntry j = if j = i then some x else s.flashEntry j := fun j => by
    split
    · next hj => exact hj ▸ hx
    · rfl
  unfold State.decayEntry
  rw [hx]
  obtain ⟨n, f, kind, colour, spans⟩ := x
  cases kind with
  | alert => exact .inr ⟨_, rfl, rfl, rfl, hstays⟩
  | moving k len rem start =>
    simp only [decayed]
    split
    · exact .inr ⟨_, rfl, rfl, rfl, hstays⟩
    · split
      · exact .inl ⟨rfl, rfl⟩
      · exact .inr ⟨_, rfl, rfl, rfl, fun j => Table.get_set ..⟩

/-- The end of an entry leaves the same cells and the same age order in states that agree in both and in the entry. -/
theorem endFlash_congr {s t : State} {i : Nat} (hx : t.flashEntry i = s.flashEntry i) (hc : t.cst = s.cst)
    (ho : t.fau.order = s.fau.order) :
    (t.endFlash i).cst = (s.endFlash i).cst ∧ (t.endFlash i).fau.order = (s.endFlash i).fau.order := by
  unfold State.endFlash
  rw [hx]
  cases s.flashEntry i with
  | none => exact ⟨hc, ho⟩
  | some x =>
    simp only [State.releaseCells, State.setFau_cst, State.setCells_cst, State.setFau_fau, State.setCells_fau, hc, ho,
      and_self]

/-! ## The table -/

/-- The indices of `l` whose entries end at the frame start numbered `now` (R105). -/
def decayEnds (s : State) (now : FrameNo) (l : List Nat) : List Nat :=
  l.filter fun i => ((s.flashEntry i).bind (decayed now)).isNone

/-- The entries of the indices `l` decayed: the cells and the age order as the ends alone leave them (R105, R106). -/
structure Decayed (s t : State) (now : FrameNo) (l : List Nat) : Prop where
  cst : t.cst = ((decayEnds s now l).foldl State.endFlash s).cst
  order : t.fau.order = ((decayEnds s now l).foldl State.endFlash s).fau.order
  entry : ∀ j, t.flashEntry j = if j ∈ l then (s.flashEntry j).bind (decayed now) else s.flashEntry j

theorem decayed_foldl {s : State} (hc : Table.wf .blank s.cst.cells = true) (now : FrameNo) {l : List Nat}
    (hl : l.Nodup) (hused : ∀ i ∈ l, (s.flashEntry i).isSome = true) :
    Decayed s (l.foldl (State.decayEntry now) s) now l := by
  induction l using List.reverseRecOn with
  | nil => exact ⟨rfl, rfl, fun j => by simp⟩
  | append_singleton l i ih =>
    have hnodup := List.nodup_append.mp hl
    have hil : i ∉ l := fun h => hnodup.2.2 i h i (List.mem_singleton_self i) rfl
    have h := ih hnodup.1 fun j hj => hused j (List.mem_append_left _ hj)
    obtain ⟨x, hx⟩ := Option.isSome_iff_exists.mp (hused i (List.mem_append_right _ (List.mem_singleton_self i)))
    have hends := endAll (l := decayEnds s now l) hc (hnodup.1.filter _) fun j hj =>
      hused j (List.mem_append_left _ (List.mem_filter.mp hj).1)
    have hxt := (h.entry i).trans (if_neg hil)
    have hxe := (hends.entry i).trans (if_neg fun hi => hil (List.mem_filter.mp hi).1)
    have hbind : (s.flashEntry i).bind (decayed now) = decayed now x := by rw [hx]; rfl
    rw [List.foldl_append, List.foldl_cons, List.foldl_nil]
    rcases decayEntry_cases (hxt.trans hx) now with ⟨hnone, heq⟩ | ⟨y, hy, hcst, horder, hentry⟩
    · have hlist : decayEnds s now (l ++ [i]) = decayEnds s now l ++ [i] := by
        simp [decayEnds, List.filter_append, hbind, hnone]
      obtain ⟨h1, h2⟩ := endFlash_congr (hxt.trans hxe.symm) h.cst h.order
      rw [heq]
      refine ⟨?_, ?_, fun j => ?_⟩
      · rw [hlist, List.foldl_append, h1]; rfl
      · rw [hlist, List.foldl_append, h2]; rfl
      · rw [State.flashEntry_endFlash, h.entry]
        by_cases hj : j = i
        · subst hj
          simp [hbind, hnone]
        · simp [hj]
    · have hlist : decayEnds s now (l ++ [i]) = decayEnds s now l := by
        simp [decayEnds, List.filter_append, hbind, hy]
      refine ⟨hlist ▸ hcst.trans h.cst, hlist ▸ horder.trans h.order, fun j => ?_⟩
      rw [hentry, h.entry]
      by_cases hj : j = i
      · subst hj
        simp [hbind, hy]
      · simp [hj]

/-- The indices in use, in rising order. -/
def usedFlash (s : State) : List Nat := s.fau.flash.map (·.1)

theorem mem_usedFlash {s : State} (hwf : Table.wf none s.fau.flash = true) {i : Nat} :
    i ∈ usedFlash s ↔ ∃ x, s.flashEntry i = some x := by
  unfold usedFlash
  constructor
  · intro hi
    obtain ⟨e, he, rfl⟩ := List.mem_map.mp hi
    rw [show s.flashEntry e.1 = e.2 from Table.get_of_mem hwf he]
    exact Option.ne_none_iff_exists'.mp (((Table.wf_iff _ _).mp hwf).2 e he)
  · rintro ⟨x, hx⟩
    exact List.mem_map_of_mem (State.mem_flash hx)

/-- The flash table, the age order and the references after a decay (R105, R106). -/
structure DecayDone (s t : State) (now : FrameNo) : Prop where
  entry : ∀ i, t.flashEntry i = (s.flashEntry i).bind (decayed now)
  order : t.fau.order = s.fau.order.filter fun i => (s.flashEntry i).isNone || (t.flashEntry i).isSome
  cell : ∀ k, keepsOrLosesReference s t k

/-- Decay goes through every entry once (R105). -/
theorem decayDone {s : State} (hc : Canonical s) : DecayDone s s.decay s.dtg.counter := by
  have hnodup : (usedFlash s).Nodup :=
    List.pairwise_map.mpr (((Table.wf_iff _ _).mp hc.flash).1.imp Nat.ne_of_lt)
  have hused : ∀ i ∈ usedFlash s, (s.flashEntry i).isSome = true := fun i hi =>
    Option.isSome_iff_exists.mpr ((mem_usedFlash hc.flash).mp hi)
  have h : Decayed s s.decay s.dtg.counter (usedFlash s) := decayed_foldl hc.cells _ hnodup hused
  have hends := endAll (l := decayEnds s s.dtg.counter (usedFlash s)) hc.cells (hnodup.filter _) fun i hi =>
    hused i (List.mem_filter.mp hi).1
  have hentry : ∀ i, s.decay.flashEntry i = (s.flashEntry i).bind (decayed s.dtg.counter) := fun i => by
    rw [h.entry]
    split
    · rfl
    · next hi =>
      rw [Option.eq_none_iff_forall_ne_some.mpr fun x hx => hi ((mem_usedFlash hc.flash).mpr ⟨x, hx⟩)]
      rfl
  have hmem : ∀ i, i ∈ decayEnds s s.dtg.counter (usedFlash s) ↔
      (s.flashEntry i).isSome = true ∧ s.decay.flashEntry i = none := fun i => by
    rw [decayEnds, List.mem_filter, mem_usedFlash hc.flash, hentry, Option.isSome_iff_exists,
      Option.isNone_iff_eq_none]
  refine ⟨hentry, ?_, fun k => keepsOrLosesReference_of_ended (fun i hi => ((hmem i).mp hi).2) (fun i x hx hi => ?_)
    ((State.cell_congr (congrArg Cst.cells h.cst) k).trans (hends.cell k))⟩
  · rw [h.order, hends.order]
    refine List.filter_congr fun i _ => ?_
    simp only [hmem]
    cases s.flashEntry i <;> cases s.decay.flashEntry i <;> simp
  · obtain ⟨y, hy⟩ := Option.ne_none_iff_exists'.mp fun hnone =>
      hi ((hmem i).mpr ⟨Option.isSome_iff_exists.mpr ⟨x, hx⟩, hnone⟩)
    have hdecayed : decayed s.dtg.counter x = some y := by
      rw [hentry, hx] at hy
      exact hy
    exact ⟨y, hy, decayed_keeps hdecayed⟩

/-! ## The frame start -/

/-- An unheld frame start decays, and then no block touches the flash table or the age order. -/
theorem fau_frameStart {s : State} (h : s.held = false) : s.frameStart.fau = (s.begun false).decay.fau := by
  obtain ⟨c, hc⟩ := s.frameStart_eq
  have hage : SameButRepaint _ (s.acted false) := State.ageSlots_frame (s.begun false).decay (s.begun false).dtg.counter
  rw [hc, h, hage]
  rfl

/-- A cell that no slot turning STALE repaints is as the decay leaves it (R108). -/
theorem cell_frameStart_of_unpainted {s : State} (hc : Canonical s) (h : s.held = false) {k : Nat}
    (hk : ∀ n, (s.slot n).state = .fresh → (s.frameStart.slot n).state = .stale →
      ¬ inPlacements s (s.slot n).placements k) :
    s.frameStart.cell k = (s.begun false).decay.cell k := by
  obtain ⟨c, heq⟩ := s.frameStart_eq
  rw [h] at heq
  let u := (s.begun false).decay
  have hdecay : SameButFlash (s.begun false) u := State.decay_frame _
  have hslots : u.itb.slots = s.itb.slots := congrArg Itb.slots hdecay.itb
  have hpaint : paintedOver (u.agedSlots (s.dtg.counter + 1)) (u.newlyStale (s.dtg.counter + 1)) k
      (s.frameStart.cell k) := by
    rw [heq]
    exact paintedOver_ageSlots ..
  rcases hpaint with ⟨n, hn, a, ha, -⟩ | ⟨-, hcell⟩
  · obtain ⟨hfresh, hstale⟩ := (State.mem_newlyStale (hslots ▸ hc.slots)).mp hn
    rw [State.slot_congr hslots] at hfresh hstale
    rw [← slot_frameStart hc.slots h] at hstale
    rw [State.slot_agedSlots (hslots ▸ hc.slots), Slot.aged_placements, State.slot_congr hslots] at ha
    have hlast : lastColumn s (s.slot n).placements k = some a :=
      (lastColumn_congr hdecay.pages (congrArg Itb.layouts hdecay.itb) ..).symm.trans ha
    exact nomatch hlast.symm.trans (lastColumn_eq_none.mpr (hk n hfresh hstale))
  · exact hcell

/-- A cell that the formatter makes names an entry of the table (R98). -/
theorem entry_of_ref_columnCells {s : State} (hwf : Table.wf none s.fau.flash = true) {n k i : Nat} {a : Nat × Column}
    (hk : a.1 ≤ k ∧ k < a.1 + a.2.width) (h : ((s.columnCells n a.2).getD (k - a.1) .blank).ref = some i) :
    ∃ y, s.flashEntry i = some y := by
  obtain ⟨-, -, hcol⟩ := State.mem_columnCells (List.mem_of_getElem? (getElem?_columnCells (s := s) (n := n) hk))
  obtain ⟨f, -, -, hfind⟩ := State.columnRef_eq_some (hcol.symm.trans h)
  obtain ⟨y, hy, -⟩ := State.find_some hwf hfind
  exact ⟨y, hy⟩

theorem canonical_begun {s : State} (hc : Canonical s) (held : Bool) : Canonical (s.begun held) :=
  canonical_kept.cme _ _ (canonical_kept.clean _ (canonical_kept.link _ _ (State.setFli_link ..)
    (canonical_kept.dtg _ _ hc)))

/-- What an unheld frame start leaves of the flash table and the references (R105, R106). -/
structure FlashesDecayed (s t : State) : Prop where
  alerts : t.fau.alerts = s.fau.alerts
  entry : ∀ i, t.flashEntry i = (s.flashEntry i).bind (decayed (s.dtg.counter + 1))
  order : t.fau.order = s.fau.order.filter fun i => (s.flashEntry i).isNone || (t.flashEntry i).isSome
  cell : ∀ k, (∀ n, (s.slot n).state = .fresh → (t.slot n).state = .stale → ¬ inPlacements s (s.slot n).placements k) →
    keepsOrLosesReference s t k

theorem flashesDecayed {s : State} (hc : Canonical s) (h : s.held = false) : FlashesDecayed s s.frameStart := by
  have hdone := decayDone (canonical_begun hc false)
  have hfau := fau_frameStart h
  have hentry := State.flashEntry_congr (congrArg Fau.flash hfau)
  refine ⟨?_, fun i => (hentry i).trans (hdone.entry i), ?_, fun k hk => ?_⟩
  · rw [hfau, (State.decay_frame (s.begun false)).alerts_eq]
    rfl
  · simp only [hfau, hentry]
    exact hdone.order
  · have hcell := hdone.cell k
    unfold keepsOrLosesReference lostReference at hcell ⊢
    simp only [hentry, cell_frameStart_of_unpainted hc h hk]
    exact hcell

/-- A cell whose reference names an entry that ends loses it, repainted or not: what a painting leaves names an entry that
stands (R98, R106). -/
theorem ref_frameStart_ne {s : State} (hc : Canonical s) (h : s.held = false) {k : Nat}
    (hlost : lostReference s s.frameStart k) : (s.frameStart.cell k).ref ≠ (s.cell k).ref := by
  have hdecay := flashesDecayed hc h
  obtain ⟨i, x, href, hx, hgone, -⟩ := id hlost
  rw [href]
  rcases cell_frameStart hc h k with ⟨n, a, -, -, hlast, hcell⟩ | ⟨hnone, -⟩
  · intro hi
    rw [hcell] at hi
    have hwf : Table.wf none s.frameStart.fau.flash = true := (canonical_kept.eventKept.frameStart s hc).flash
    obtain ⟨y, hy⟩ := entry_of_ref_columnCells hwf (lastColumn_eq_some hlast).2 hi
    have hdecayed : decayed (s.dtg.counter + 1) x = some y := by
      have := hdecay.entry i
      rw [hy, hx] at this
      exact this.symm
    exact hgone y hy (decayed_keeps hdecayed)
  · rw [(hdecay.cell k fun n hfresh hstale => lastColumn_eq_none.mp (hnone n hfresh hstale)).1 hlost]
    exact nofun

/-- Settles O35: the table from its decay, the cells as the decay leaves them where no slot turns STALE. -/
theorem flashesDecay : Obligations.FlashesDecay := by
  refine ⟨fun s hend hawake hheld hcan => ?_, fun s hend hawake hheld => ?_, fun s => exec_frameStart_asleep⟩
  · have hc := (canonical_iff s).mp hcan
    obtain ⟨halerts, hentry, horder, hcell⟩ := flashesDecayed hc hheld
    exact ⟨s.frameStart, exec_frameStart hend hawake, halerts, hentry, horder,
      fun k => ⟨ref_frameStart_ne hc hheld, hcell k⟩⟩
  · obtain ⟨t, ht, -, -, -, hfau, -⟩ := heldFrameStart s hend hawake hheld
    exact ⟨t, ht, hfau⟩

end Sys2Proof.Claims
end

-- ==== Proofs: the crawl ====
section
/-!
O37, O58. The crawl as a function of the compositor and the cell width: what the load, the advance and the requests
leave of it; then the frame start, and every change a command makes.
-/

namespace Sys2Proof.Machine

/-! ## The laws of the crawl -/

/-- The columns of the crawl pane of a copy, 0 without one. -/
def Composition.crawlCols (k : Composition) : Nat := k.crawlPane.elim 0 fun p => p.cols

/-- The laws of the crawl for the cell width `w`, with their parts named. -/
structure CrawlForm (c : Sco) (w : Nat) : Prop where
  entered : c.entered = true → c.lead = 0 ∧ c.ring ≠ []
  ring : c.ring.length ≤ 1024
  speed : c.speed ≤ 8
  offset : c.offset < w
  lead : c.lead ≤ c.active.crawlCols

theorem crawlLaw_iff (s : State) : s.crawlLaw ↔ CrawlForm s.sco s.dtg.activeFormat.cellW := by
  have hlead : (match s.sco.active.crawlPane with | some p => s.sco.lead ≤ p.cols | none => s.sco.lead = 0) ↔
      s.sco.lead ≤ s.sco.active.crawlCols := by
    unfold Composition.crawlCols
    cases s.sco.active.crawlPane with
    | none => exact Nat.le_zero.symm
    | some p => exact .rfl
  constructor
  · rintro ⟨h1, h2, h3, h4, h5⟩
    exact ⟨h1, h2, h3, h4, hlead.mp h5⟩
  · intro h
    exact ⟨h.entered, h.ring, h.speed, h.offset, hlead.mpr h.lead⟩

theorem Format.eight_le_cellW (f : Format) : 8 ≤ f.cellW := by cases f <;> decide

theorem Format.cellW_pos (f : Format) : 0 < f.cellW := Nat.zero_lt_of_lt f.eight_le_cellW

/-- The load, the lead and the offset written out (R123). -/
theorem Sco.load_eq (c : Sco) (reformat : Bool) :
    c.load reformat = { c with
      active := c.staged
      display := if c.bannerEnd then .panes else c.display
      bannerEnd := false
      lead := c.staged.crawlPane.elim 0 fun p => min c.lead p.cols
      offset := if reformat then 0 else c.offset } := by
  unfold Sco.load
  cases c.staged.crawlPane <;> rfl

/-- The lead that a cleared crawl reloads (R135). -/
theorem Sco.clearCrawl_eq (c : Sco) :
    c.clearCrawl = { c with ring := [], lead := c.active.crawlCols, offset := 0, entered := false } := by
  unfold Sco.clearCrawl Composition.crawlCols
  cases c.active.crawlPane <;> rfl

namespace CrawlForm

variable {c : Sco} {w : Nat}

theorem load (h : CrawlForm c w) {reformat : Bool} {w' : Nat} (hw : 0 < w') (hsame : reformat = false → w' = w) :
    CrawlForm (c.load reformat) w' := by
  rw [Sco.load_eq]
  refine ⟨fun he => ⟨?_, (h.entered he).2⟩, h.ring, h.speed, ?_, ?_⟩
  · cases hp : c.staged.crawlPane <;> simp [(h.entered he).1]
  · cases reformat with
    | true => exact hw
    | false => exact hsame rfl ▸ h.offset
  · change c.staged.crawlPane.elim 0 _ ≤ c.staged.crawlPane.elim 0 _
    cases c.staged.crawlPane with
    | none => exact le_rfl
    | some p => exact Nat.min_le_right ..

theorem crawlStep (h : CrawlForm c w) : CrawlForm (c.crawlStep c.active.crawlCols) w := by
  rcases c.crawlStep_cases c.active.crawlCols with ⟨hl, e⟩ | ⟨-, -, e⟩ | ⟨-, he, -, e⟩ | ⟨-, he, -, e⟩ <;> rw [e]
  · exact ⟨fun hc => absurd (h.entered hc).1 hl.ne', h.ring, h.speed, h.offset, (Nat.sub_le ..).trans h.lead⟩
  · exact ⟨nofun, h.ring, h.speed, h.offset, h.lead⟩
  · exact ⟨fun hc => absurd (he.symm.trans hc) nofun, Nat.zero_le _, h.speed, Nat.zero_lt_of_lt h.offset, le_rfl⟩
  · refine ⟨fun hc => absurd (he.symm.trans hc) nofun, ?_, h.speed, h.offset, h.lead⟩
    exact (List.length_tail.trans_le (Nat.sub_le ..)).trans h.ring

theorem advance (h : CrawlForm c w) (hw : 8 ≤ w) : CrawlForm (c.advance w) w := by
  unfold Sco.advance
  split
  · exact h
  · next p hp =>
    have hcols : c.active.crawlCols = p.cols := by rw [Composition.crawlCols, hp]; rfl
    split
    · exact h
    · split
      · next hlt => exact ⟨h.entered, h.ring, h.speed, hlt, h.lead⟩
      · have hlow : CrawlForm { c with offset := c.offset + c.speed - w } w :=
          ⟨h.entered, h.ring, h.speed, by have := h.offset; have := h.speed; simp only; omega, h.lead⟩
        exact hcols ▸ hlow.crawlStep

theorem append (h : CrawlForm c w) {text : List CrawlChar} (hpos : 1 ≤ text.length)
    (hfits : c.ring.length + text.length ≤ 1024) : CrawlForm (c.append text) w := by
  have hne : c.ring ++ text ≠ [] := fun he =>
    absurd (List.append_eq_nil_iff.mp he).2 (List.ne_nil_of_length_pos hpos)
  refine ⟨fun he => ⟨?_, hne⟩, ?_, h.speed, h.offset, h.lead⟩
  · change (c.entered || (c.ring.isEmpty && c.lead == 0)) = true at he
    rcases (Bool.or_eq_true ..).mp he with he | he
    · exact (h.entered he).1
    · exact eq_of_beq ((Bool.and_eq_true ..).mp he).2
  · exact List.length_append.trans_le hfits

theorem setSpeed (h : CrawlForm c w) {speed : Nat} (hspeed : speed ≤ 8) (blank : Nat) :
    CrawlForm { c with speed := speed, blank := blank } w :=
  ⟨h.entered, h.ring, hspeed, h.offset, h.lead⟩

theorem clearCrawl (h : CrawlForm c w) : CrawlForm c.clearCrawl w := by
  rw [Sco.clearCrawl_eq]
  exact ⟨nofun, Nat.zero_le _, h.speed, Nat.zero_lt_of_lt h.offset, le_rfl⟩

/-- The copies staged and the banner end have no part in the laws. -/
theorem stage (h : CrawlForm c w) (k : Composition) (e : Bool) : CrawlForm { c with staged := k, bannerEnd := e } w :=
  ⟨h.entered, h.ring, h.speed, h.offset, h.lead⟩

theorem reset (hw : 0 < w) : CrawlForm .reset w := ⟨nofun, Nat.zero_le _, by decide, hw, Nat.zero_le _⟩

end CrawlForm

/-! ## The frame start -/

/-- Before the compositor acts, a frame start changes nothing of it, and the generator has acted (R161). -/
theorem State.acted_sco_dtg (s : State) (held : Bool) :
    (s.acted held).sco = s.sco ∧ (s.acted held).dtg = s.dtg.frameStart := by
  cases held with
  | false =>
    have hage : SameButRepaint _ (s.acted false) :=
      State.ageSlots_frame (s.begun false).decay (s.begun false).dtg.counter
    rw [hage, State.decay_frame (s.begun false)]
    exact ⟨rfl, rfl⟩
  | true =>
    have hlink : SameButLink (s.begun true) (s.acted true) := State.heldNotice_link ..
    rw [hlink]
    exact ⟨rfl, rfl⟩

/-- A frame start with its last action, the compositor's, written out. -/
theorem State.frameStart_acted (s : State) :
    s.frameStart =
      let t := s.acted s.held
      let u := t.setSco (t.sco.load (s.dtg.activeFormat != t.dtg.activeFormat))
      if s.held then u else u.setSco (u.sco.advance u.dtg.activeFormat.cellW) := rfl

/-- The compositor after the load of a frame start (R123). -/
def State.loadedSco (s : State) : Sco := s.sco.load (s.dtg.activeFormat != s.dtg.stagedFormat)

theorem State.loadedSco_offset (s : State) :
    s.loadedSco.offset = if s.dtg.stagedFormat = s.dtg.activeFormat then s.sco.offset else 0 := by
  change (if (s.dtg.activeFormat != s.dtg.stagedFormat) = true then 0 else s.sco.offset) = _
  by_cases hf : s.dtg.stagedFormat = s.dtg.activeFormat
  · simp [hf]
  · simp [hf, Ne.symm hf]

/-- The compositor at a frame start: the load, and the advance where it is not held (R123, R136). -/
theorem State.frameStart_sco (s : State) :
    s.frameStart.sco =
      if s.held then s.loadedSco else s.loadedSco.advance s.dtg.stagedFormat.cellW := by
  obtain ⟨hsco, hdtg⟩ := s.acted_sco_dtg s.held
  rw [State.frameStart_acted]
  simp only
  split
  · rw [State.setSco_sco, hsco, hdtg]
    rfl
  · rw [State.setSco_sco, State.setSco_sco, State.setSco_dtg, hsco, hdtg]
    rfl

theorem CrawlForm.frameStart {s : State} (h : CrawlForm s.sco s.dtg.activeFormat.cellW) :
    CrawlForm s.frameStart.sco s.frameStart.dtg.activeFormat.cellW := by
  have hload : CrawlForm s.loadedSco s.dtg.stagedFormat.cellW :=
    h.load s.dtg.stagedFormat.cellW_pos fun hsame => by rw [bne_eq_false_iff_eq.mp hsame]
  rw [s.frameStart_started.dtg, State.frameStart_sco]
  change CrawlForm _ s.dtg.stagedFormat.cellW
  split
  · exact hload
  · exact hload.advance s.dtg.stagedFormat.eight_le_cellW

/-! ## The changes -/

/-- The compositor and the active format, all that the laws of the crawl read. -/
structure SameCrawl (s t : State) : Prop where
  sco : t.sco = s.sco
  format : t.dtg.activeFormat = s.dtg.activeFormat

theorem SameCrawl.crawlLaw {s t : State} (h : SameCrawl s t) (hs : s.crawlLaw) : t.crawlLaw := by
  rw [crawlLaw_iff, h.sco, h.format, ← crawlLaw_iff]
  exact hs

theorem SameCrawl.trans {s t u : State} (h : SameCrawl s t) (h' : SameCrawl t u) : SameCrawl s u :=
  ⟨h'.sco.trans h.sco, h'.format.trans h.format⟩

theorem SameButLink.crawl {s t : State} (h : SameButLink s t) : SameCrawl s t := by
  rw [h]
  exact ⟨rfl, rfl⟩

theorem SameButAlerts.crawl {s t : State} (h : SameButAlerts s t) : SameCrawl s t := by
  rw [h]
  exact ⟨rfl, rfl⟩

theorem SameButCells.crawl {s t : State} (h : SameButCells s t) : SameCrawl s t := h.flash.alerts.crawl

theorem State.dropSlot_crawl (s : State) (n : Nat) : SameCrawl s (s.dropSlot n) :=
  have hended : SameButFlash (s.unqueued n) (s.unflashed n) :=
    foldl_rel SameButFlash .refl (fun _ _ _ => .trans) State.endFlash_frame _ _
  have hqueue : SameCrawl s (s.unqueued n) := ⟨rfl, rfl⟩
  have hflash : SameCrawl (s.unqueued n) (s.silenced n) := hended.alerts.crawl.trans ⟨rfl, rfl⟩
  have hslot : SameCrawl (s.undrawn n) (s.dropSlot n) := ⟨rfl, rfl⟩
  hqueue.trans (hflash.trans ((s.undrawn_frame n).crawl.trans hslot))

theorem State.endCommit_crawl (s : State) : SameCrawl s s.endCommit :=
  SameCrawl.trans (t := s.setCme { s.cme with state := .idle }) ⟨rfl, rfl⟩ (State.frameNotice_frame ..).link.crawl

theorem State.commitStep_crawl (s : State) : SameCrawl s s.commitStep := by
  unfold State.commitStep
  split
  · exact s.endCommit_crawl
  · next n _ _ =>
    split
    · exact SameCrawl.trans (t := s.stored n) ⟨rfl, rfl⟩ (s.take_frame n).crawl
    · exact s.endCommit_crawl

theorem State.scanStart_crawl (s : State) : SameCrawl s s.scanStart := by
  have hscan : SameCrawl s (s.setDtg { s.dtg with phase := .scan }) := ⟨rfl, rfl⟩
  unfold State.scanStart
  simp only
  split
  · exact hscan.trans (State.endCommit_crawl _)
  · exact hscan

theorem State.debouncedEdge_crawl (s : State) (l : Nat) : SameCrawl s (s.debouncedEdge l) := by
  have hline : SameCrawl s (s.setLine l (s.line l).edge) := ⟨rfl, rfl⟩
  rcases s.debouncedEdge_cases l with h | h
  · exact hline.trans h.crawl
  · refine (hline.trans ?_).trans h.crawl
    unfold State.acknowledgeHead
    split
    · exact ⟨rfl, rfl⟩
    · exact (State.acknowledge_frame ..).crawl

theorem Dtg.setModes_activeFormat (d : Dtg) (a : Area) (c : ColourMode) (p : Power) :
    (d.setModes a c p).activeFormat = d.activeFormat := by
  unfold Dtg.setModes
  cases d.power <;> cases p <;> rfl

/-- Every change keeps the laws of the crawl: most leave the compositor and the active format alone. -/
theorem Change.crawlLaw {i : Instr} {s t : State} (hc : Change i s t) (hs : s.crawlLaw) : t.crawlLaw := by
  have h := (crawlLaw_iff s).mp hs
  have hsame : ∀ {u}, SameCrawl s u → u.crawlLaw := fun hu => hu.crawlLaw hs
  have hsco : ∀ c, CrawlForm c s.dtg.activeFormat.cellW → (s.setSco c).crawlLaw := fun c hc => (crawlLaw_iff _).mpr hc
  cases hc with
  | same => exact hs
  | format => exact hsame ⟨rfl, rfl⟩
  | mode a c p => exact hsame ⟨rfl, s.dtg.setModes_activeFormat a c p⟩
  | screen => exact hsame ⟨rfl, rfl⟩
  | palette => exact hsame ⟨rfl, rfl⟩
  | style => exact hsame ⟨rfl, rfl⟩
  | fontarea => exact hsame ⟨rfl, rfl⟩
  | glyphs => exact hsame ⟨rfl, rfl⟩
  | page => exact hsame ⟨rfl, rfl⟩
  | unpage => exact hsame ⟨rfl, rfl⟩
  | text => exact hsame ⟨rfl, rfl⟩
  | fill =>
    exact hsame (foldl_rel SameButCells .refl (fun _ _ _ => .trans) (fun _ _ => State.writeCells_frame ..) _ _).crawl
  | pane => exact hsco _ (h.stage _ _)
  | scroll => exact hsco _ (h.stage _ _)
  | clip => exact hsco _ (h.stage _ _)
  | crawl text hpos hfits => exact hsco _ (h.append hpos hfits)
  | crawlctl speed blank clear hspeed =>
    refine hsco _ ?_
    split
    · exact (h.setSpeed hspeed blank).clearCrawl
    · exact h.setSpeed hspeed blank
  | define => exact hsame ⟨rfl, rfl⟩
  | drop n => exact hsame (s.dropSlot_crawl n)
  | layout => exact hsame ⟨rfl, rfl⟩
  | place n p =>
    exact hsame (SameCrawl.trans (t := s.listPlacement n p) ⟨rfl, rfl⟩ (State.writePlacement_frame ..).crawl)
  | unplace n k p => exact hsame ((State.blankPlacement_frame s p).crawl.trans ⟨rfl, rfl⟩)
  | post => exact hsame ⟨rfl, rfl⟩
  | pendingFull => exact hsame ⟨rfl, rfl⟩
  | limit => exact hsame ⟨rfl, rfl⟩
  | ack n side => exact hsame (s.acknowledge_frame n side).crawl
  | hold => exact hsame ⟨rfl, rfl⟩
  | qslot => exact hsame ⟨rfl, rfl⟩
  | lines => exact hsame ⟨rfl, rfl⟩
  | save => exact hsame ⟨rfl, rfl⟩
  | saved => exact hsame ⟨rfl, rfl⟩
  | reset => exact (crawlLaw_iff _).mpr (.reset s.loadProfile.format.cellW_pos)
  | frameStart => exact (crawlLaw_iff _).mpr h.frameStart
  | sleepEntry => exact hsame ⟨rfl, rfl⟩
  | scanStart => exact hsame s.scanStart_crawl
  | commitStep => exact hsame s.commitStep_crawl
  | pinChange => exact hsame ⟨rfl, rfl⟩
  | edge l => exact hsame (s.debouncedEdge_crawl l)

/-- Settles O58: every change of a waiting command keeps the laws of the crawl. -/
theorem stepKeepsCrawlLaw : Obligations.StepKeepsCrawlLaw := by
  intro s t hs h
  have hlink : LinkFree State.crawlLaw := fun _ _ h hs => h.crawl.crawlLaw hs
  exact step_leads hlink hlink (fun _ _ _ _ h0 hc => hc.crawlLaw h0) id hs h

end Sys2Proof.Machine

namespace Sys2Proof.Claims

open Sys2Proof.Machine

/-- The crawl moved to the pixel offset `moved` under the cell width `w`, in a pane of `cols` columns: beyond a cell
width one column leaves, of the lead or of the text (R136; R138, row 1, log 29). -/
def crawlMoved (c : Sco) (w cols moved : Nat) : Sco :=
  let takes := moved ≥ w ∧ c.lead = 0 ∧ c.entered = false
  let emptied := takes ∧ c.ring.length ≤ 1
  { c with
    ring := if takes then c.ring.tail else c.ring
    lead := if emptied then cols else if moved ≥ w then c.lead - 1 else c.lead
    offset := if emptied then 0 else if moved ≥ w then moved - w else moved
    entered := c.entered && !decide (moved ≥ w ∧ c.lead = 0) }

theorem crawlMoved_of_lt (c : Sco) {w moved : Nat} (h : moved < w) (cols : Nat) :
    crawlMoved c w cols moved = { c with offset := moved } := by
  simp [crawlMoved, Nat.not_le.mpr h]

theorem crawlMoved_of_le (c : Sco) {w moved : Nat} (h : w ≤ moved) (cols : Nat) :
    crawlMoved c w cols moved = Sco.crawlStep { c with offset := moved - w } cols := by
  rcases Sco.crawlStep_cases { c with offset := moved - w } cols with
    ⟨hl, e⟩ | ⟨hl, he, e⟩ | ⟨hl, he, hr, e⟩ | ⟨hl, he, hr, e⟩ <;> rw [e]
  · simp only at hl
    simp [crawlMoved, h, hl.ne']
  · simp only at hl he
    simp [crawlMoved, hl, he, h]
  · simp only at hl he hr
    have htail : c.ring.tail = [] := List.eq_nil_of_length_eq_zero (by simp; omega)
    simp [crawlMoved, hl, he, h, hr, htail]
  · simp only at hl he hr
    simp [crawlMoved, hl, he, h, Nat.not_le.mpr hr]

/-- The advance moves the crawl by its speed where an active crawl pane shows it (R136). -/
theorem advance_eq (c : Sco) {w : Nat} (h : c.offset < w) :
    c.advance w = crawlMoved c w c.active.crawlCols
      (if c.active.crawlPane.all fun p => p.priority = 0 then c.offset else c.offset + c.speed) := by
  unfold Sco.advance Composition.crawlCols
  cases c.active.crawlPane with
  | none => exact (crawlMoved_of_lt c h _).symm
  | some p =>
    simp only [Option.all_some, decide_eq_true_eq, Option.elim_some]
    split
    · exact (crawlMoved_of_lt c h _).symm
    · split
      · next hlt => exact (crawlMoved_of_lt c hlt _).symm
      · next hle => exact (crawlMoved_of_le c (Nat.not_lt.mp hle) _).symm

/-- Settles O37: the load, then the advance as a move of the crawl; a held frame start moves it nowhere. -/
theorem frameStartLoadsComposition : Obligations.FrameStartLoadsComposition := by
  intro s hend hawake _ hoffset
  refine ⟨s.frameStart, exec_frameStart hend hawake, ?_⟩
  have hstart := s.loadedSco_offset
  have hlt : s.loadedSco.offset < s.dtg.stagedFormat.cellW := by
    rw [hstart]
    split
    · next hf => exact hf ▸ hoffset
    · exact Format.cellW_pos _
  have hmoved : s.frameStart.sco = crawlMoved s.loadedSco s.dtg.stagedFormat.cellW s.sco.staged.crawlCols
      (if s.held ∨ (s.sco.staged.crawlPane.all fun p => p.priority = 0) then s.loadedSco.offset
      else s.loadedSco.offset + s.sco.speed) := by
    rw [State.frameStart_sco]
    cases s.held
    · simp only [Bool.false_eq_true, if_false, false_or]
      exact advance_eq _ hlt
    · simp only [if_true, true_or]
      exact (crawlMoved_of_lt s.loadedSco hlt _).symm
  have hload : s.loadedSco = _ := Sco.load_eq ..
  rw [hstart, hload] at hmoved
  exact hmoved

end Sys2Proof.Claims
end

-- ==== Proofs: PANE, SCROLL, CLIP and the crawl's requests ====
section
/-!
O13, O14. The choices of a pane read at once, then each action check by check.
-/

namespace Sys2Proof.Claims

open Sys2Proof.Machine

/-! ## PANE -/

/-- A choice of two values, numbered 0 and 1 (R184). -/
theorem choice_eq_some {α : Type} {b : Byte} {x y v : α} :
    (match b.toNat with
      | 0 => some x
      | 1 => some y
      | _ => none) = some v ↔ b.toNat ≤ 1 ∧ v = if b = 0 then x else y := by
  split
  · next hb => rw [(byte_eq_iff b 0 (by omega)).mpr hb]; simp [eq_comm]
  · next hb => rw [(byte_eq_iff b 1 (by omega)).mpr hb]; simp [eq_comm]
  · next h0 h1 =>
    have hgt : ¬ b.toNat ≤ 1 := fun hle => (Nat.le_one_iff_eq_zero_or_eq_one.mp hle).elim h0 h1
    simp [hgt]

theorem paneKind?_eq_some {b : Byte} {k : PaneKind} :
    PaneKind.ofByte? b = some k ↔ b.toNat ≤ 1 ∧ k = if b = 0 then .page else .crawl := choice_eq_some

theorem logic?_eq_some {b : Byte} {l : Logic} :
    Logic.ofByte? b = some l ↔ b.toNat ≤ 1 ∧ l = if b = 0 then .or else .and := choice_eq_some

theorem clipMode?_eq_some {b : Byte} {m : ClipMode} : ClipMode.ofByte? b = some m ↔ b.toNat ≤ 2 ∧ m = clipMode b := by
  unfold ClipMode.ofByte?
  split
  · next hb => rw [(byte_eq_iff b 0 (by omega)).mpr hb]; simp [clipMode, eq_comm]
  · next hb => rw [(byte_eq_iff b 1 (by omega)).mpr hb]; simp [clipMode, eq_comm]
  · next hb => rw [(byte_eq_iff b 2 (by omega)).mpr hb]; simp [clipMode, eq_comm]
  · next h0 h1 h2 =>
    have hgt : ¬ b.toNat ≤ 2 := fun hle => by
      interval_cases hb : b.toNat
      · exact h0 rfl
      · exact h1 rfl
      · exact h2 rfl
    simp [hgt]

/-- The parts of a PANE request in range, the page apart (R124, check 2). -/
structure PaneRanges (o : PaneOps) : Prop where
  kind : o.kind.toNat ≤ 1
  srcRow : o.srcRow.toNat ≤ 127
  srcCol : o.srcCol.toNat ≤ 199
  scrRow : o.scrRow.toNat ≤ 63
  scrCol : o.scrCol.toNat ≤ 159
  rows : 1 ≤ o.rows.toNat ∧ o.rows.toNat ≤ 64
  cols : 1 ≤ o.cols.toNat ∧ o.cols.toNat ≤ 160
  priority : o.priority.toNat ≤ 7
  w0 : o.w0.toNat ≤ 2
  w1 : o.w1.toNat ≤ 2
  logic : o.logic.toNat ≤ 1

/-- The page of a PANE request in range: for a crawl pane it is not read (R124, check 2). -/
def panePageOk (o : PaneOps) : Prop := o.kind = 1 ∨ o.page.toNat ≤ 15 ∨ (o.page = 0xFF ∧ o.priority = 0)

/-- The record that a PANE request in range gives (R125). -/
def paneOf (o : PaneOps) : Pane where
  kind := if o.kind = 0 then .page else .crawl
  page := if o.kind = 0 ∧ o.page ≠ 0xFF then some o.page.toNat else none
  srcRow := if o.kind = 0 then o.srcRow.toNat else 0
  srcCol := if o.kind = 0 then o.srcCol.toNat else 0
  scrRow := o.scrRow.toNat
  scrCol := o.scrCol.toNat
  rows := o.rows.toNat
  cols := o.cols.toNat
  priority := o.priority.toNat
  w0 := clipMode o.w0
  w1 := clipMode o.w1
  logic := if o.logic = 0 then .or else .and

theorem panePage?_eq_some {page priority : Byte} {id : Option Nat} :
    panePage? page priority = some id ↔
      (page.toNat ≤ 15 ∨ (page = 0xFF ∧ priority = 0)) ∧ id = if page = 0xFF then none else some page.toNat := by
  unfold panePage?
  by_cases hff : page = 0xFF
  · have hbig : ¬ page.toNat ≤ 15 := by rw [hff]; decide
    rw [if_pos hff, if_pos hff, or_iff_right hbig, and_iff_right hff]
    split
    · next hp => simp only [hp, true_and, Option.some.injEq, eq_comm]
    · next hp => simp only [hp, false_and, reduceCtorEq]
  · rw [if_neg hff, if_neg hff, or_iff_left fun h => hff h.1, Option.map_eq_some_iff]
    simp only [upTo?_eq_some]
    exact ⟨fun ⟨_, ⟨h, hk⟩, hid⟩ => ⟨h, hk ▸ hid.symm⟩, fun ⟨h, hid⟩ => ⟨_, ⟨h, rfl⟩, hid.symm⟩⟩

/-- A PANE request in range gives its record, and no other does (R124, check 2; R125). -/
theorem paneRecord?_of_ranges {o : PaneOps} (h : PaneRanges o) (hpage : panePageOk o) :
    paneRecord? o = some (paneOf o) := by
  unfold paneRecord? paneOf
  rw [paneKind?_eq_some.mpr ⟨h.kind, rfl⟩, upTo?_of_le h.srcRow, upTo?_of_le h.srcCol, upTo?_of_le h.scrRow,
    upTo?_of_le h.scrCol, between?_of_le h.rows, between?_of_le h.cols, upTo?_of_le h.priority,
    clipMode?_eq_some.mpr ⟨h.w0, rfl⟩, clipMode?_eq_some.mpr ⟨h.w1, rfl⟩, logic?_eq_some.mpr ⟨h.logic, rfl⟩]
  simp only [Option.bind_eq_bind, Option.bind_some]
  by_cases hk : o.kind = 0
  · have hid := panePage?_eq_some.mpr ⟨hpage.resolve_left (by rw [hk]; decide), rfl⟩
    have hboth : (o.kind = 0 ∧ o.page ≠ 0xFF) ↔ ¬ o.page = 0xFF := and_iff_right hk
    simp only [if_pos hk, hid, hboth, ite_not, Option.bind_some]
  · simp only [hk, false_and, if_false]

theorem ranges_of_paneRecord? {o : PaneOps} {r : Pane} (h : paneRecord? o = some r) :
    PaneRanges o ∧ panePageOk o := by
  obtain ⟨kind, e1, h⟩ := Option.bind_eq_some_iff.mp h
  obtain ⟨srcRow, e2, h⟩ := Option.bind_eq_some_iff.mp h
  obtain ⟨srcCol, e3, h⟩ := Option.bind_eq_some_iff.mp h
  obtain ⟨scrRow, e4, h⟩ := Option.bind_eq_some_iff.mp h
  obtain ⟨scrCol, e5, h⟩ := Option.bind_eq_some_iff.mp h
  obtain ⟨rows, e6, h⟩ := Option.bind_eq_some_iff.mp h
  obtain ⟨cols, e7, h⟩ := Option.bind_eq_some_iff.mp h
  obtain ⟨priority, e8, h⟩ := Option.bind_eq_some_iff.mp h
  obtain ⟨w0, e9, h⟩ := Option.bind_eq_some_iff.mp h
  obtain ⟨w1, e10, h⟩ := Option.bind_eq_some_iff.mp h
  obtain ⟨logic, e11, h⟩ := Option.bind_eq_some_iff.mp h
  obtain ⟨hkind, rfl⟩ := paneKind?_eq_some.mp e1
  refine ⟨⟨hkind, (upTo?_eq_some.mp e2).1, (upTo?_eq_some.mp e3).1, (upTo?_eq_some.mp e4).1, (upTo?_eq_some.mp e5).1,
    (between?_eq_some.mp e6).1, (between?_eq_some.mp e7).1, (upTo?_eq_some.mp e8).1, (clipMode?_eq_some.mp e9).1,
    (clipMode?_eq_some.mp e10).1, (logic?_eq_some.mp e11).1⟩, ?_⟩
  by_cases hk : o.kind = 0
  · simp only [if_pos hk] at h
    obtain ⟨page, hid, -⟩ := Option.bind_eq_some_iff.mp h
    exact .inr (panePage?_eq_some.mp hid).1
  · have hk0 : o.kind.toNat ≠ 0 := mt (byte_eq_iff o.kind 0 (by omega)).mpr hk
    exact .inl ((byte_eq_iff o.kind 1 (by omega)).mpr (by omega))

theorem paneAction_badValue {o : PaneOps} (s : State) (h : ¬ (o.pane.toNat ≤ 7 ∧ PaneRanges o ∧ panePageOk o)) :
    paneAction o s = refuse .badValue s := by
  unfold paneAction
  split
  · next hp hr => exact absurd ⟨(upTo?_eq_some.mp hp).1, ranges_of_paneRecord? hr⟩ h
  · rfl

theorem paneAction_eq {o : PaneOps} (s : State) (hp : o.pane.toNat ≤ 7) (h : PaneRanges o) (hpage : panePageOk o) :
    paneAction o s =
      if (paneOf o).kind = .crawl ∧ (paneOf o).rows ≠ 1 then refuse .range s
      else if (paneOf o).page.any fun id => (s.page id).isNone then refuse .noPage s
      else if (paneOf o).kind = .crawl ∧ s.sco.staged.otherCrawl o.pane.toNat then refuse .inUse s
      else accept .empty (s.setSco (s.sco.stagePane o.pane.toNat (paneOf o))) := by
  unfold paneAction
  rw [upTo?_of_le hp, paneRecord?_of_ranges h hpage]

/-- Of the two kinds, a pane is of kind CRAWL exactly when the byte is 1 (R184). -/
theorem kind_eq_one_iff {b : Byte} (h : b.toNat ≤ 1) : b = 1 ↔ ¬ b = 0 := by
  have h0 := byte_eq_iff b 0 (by omega)
  have h1 := byte_eq_iff b 1 (by omega)
  exact h1.trans (Iff.trans (by omega) (not_congr h0).symm)

theorem paneOf_crawl {o : PaneOps} (h : o.kind.toNat ≤ 1) : (paneOf o).kind = .crawl ↔ o.kind = 1 := by
  rw [kind_eq_one_iff h]
  change (if o.kind = 0 then PaneKind.page else .crawl) = .crawl ↔ _
  split
  · next hk => simp only [hk, not_true_eq_false, reduceCtorEq]
  · next hk => simp only [hk, not_false_eq_true]

/-- The page that a PANE request names is not defined (R124, check 4). -/
theorem paneOf_page_undefined (o : PaneOps) (s : State) :
    ((paneOf o).page.any fun id => (s.page id).isNone) = true ↔
      ¬ (o.kind = 0 → o.page ≠ 0xFF → (s.page o.page.toNat).isSome) := by
  change ((if o.kind = 0 ∧ o.page ≠ 0xFF then some o.page.toNat else none).any _) = true ↔ _
  split
  · next h =>
    rw [Option.any_some, Option.isNone_iff_eq_none, ← Option.not_isSome_iff_eq_none]
    exact not_congr ⟨fun hs _ _ => hs, fun hs => hs h.1 h.2⟩
  · next h => exact iff_of_false nofun (not_not_intro fun h0 h1 => absurd ⟨h0, h1⟩ h)

theorem otherCrawl_iff (k : Composition) (p : Nat) :
    k.otherCrawl p = true ↔ ¬ ∀ q ∈ List.range 8, q = p ∨ (k.pane q).kind ≠ .crawl := by
  rw [Composition.otherCrawl, List.any_eq_true]
  push Not
  simp only [Bool.and_eq_true, bne_iff_ne, beq_iff_eq]

theorem pane_request (s : State) (tag : Byte) (o : PaneOps) :
    Request (.pane tag (.ops o)) s (paneChecks o s) (fun f t =>
      Answered s t f .empty ∧
      t = { s with
        fli := t.fli
        sco := { s.sco with
          staged := { s.sco.staged with panes := t.sco.staged.panes }
          bannerEnd := s.sco.bannerEnd || decide (s.sco.display = .banner) } } ∧
      ∀ q, t.sco.staged.pane q = if q = o.pane.toNat then paneOf o else s.sco.staged.pane q) := by
  refine request_of_answers (act := paneAction o) rfl rfl ?_
  unfold paneChecks
  refine .check (fun hbad => ?_) fun hok => ?_
  · refine paneAction_badValue _ fun ⟨hp, h, hpage⟩ => of_decide_eq_false hbad ?_
    exact ⟨hp, h.kind, h.srcRow, h.srcCol, h.scrRow, h.scrCol, h.rows.1, h.rows.2, h.cols.1, h.cols.2, h.priority,
      h.w0, h.w1, h.logic, hpage⟩
  obtain ⟨hp, h1, h2, h3, h4, h5, h6, h7, h8, h9, h10, h11, h12, h13, hpage⟩ := of_decide_eq_true hok
  have heq := paneAction_eq s.dropHead hp ⟨h1, h2, h3, h4, h5, ⟨h6, h7⟩, ⟨h8, h9⟩, h10, h11, h12, h13⟩ hpage
  have hrow : (paneOf o).rows ≠ 1 ↔ ¬ o.rows = 1 := (not_congr (byte_eq_iff o.rows 1 (by omega))).symm
  simp only [paneOf_crawl h1, hrow, paneOf_page_undefined, otherCrawl_iff, ← Classical.not_imp,
    State.page_dropHead] at heq
  refine .check (fun hbad => ?_) fun hone => .check (fun hbad => ?_) fun hdef => .check (fun hbad => ?_)
    fun hother => ?_
  · exact heq.trans (if_pos (of_decide_eq_false hbad))
  all_goals rw [if_neg (not_not_intro (of_decide_eq_true hone))] at heq
  · exact heq.trans (if_pos (of_decide_eq_false hbad))
  all_goals rw [if_neg (not_not_intro (of_decide_eq_true hdef))] at heq
  · exact heq.trans (if_pos (of_decide_eq_false hbad))
  · exact .accepted _ _ (heq.trans (if_neg (not_not_intro (of_decide_eq_true hother))))
      ⟨answered_accept rfl _ _, rfl, fun q => Table.get_set ..⟩

/-! ## SCROLL and CLIP -/

theorem scrollAction_badValue {o : ScrollOps} (s : State)
    (h : ¬ (o.pane.toNat ≤ 7 ∧ o.row.toNat ≤ 127 ∧ o.col.toNat ≤ 199)) : scrollAction o s = refuse .badValue s := by
  unfold scrollAction
  split
  · next hp hrow hcol =>
    exact absurd ⟨(upTo?_eq_some.mp hp).1, (upTo?_eq_some.mp hrow).1, (upTo?_eq_some.mp hcol).1⟩ h
  · rfl

theorem scrollAction_eq {o : ScrollOps} (s : State)
    (h : o.pane.toNat ≤ 7 ∧ o.row.toNat ≤ 127 ∧ o.col.toNat ≤ 199) :
    scrollAction o s =
      if (s.sco.staged.pane o.pane.toNat).kind = .page then
        accept .empty (s.setSco { s.sco with
          staged := { s.sco.staged with
            panes := Table.set .hidden s.sco.staged.panes o.pane.toNat
              { s.sco.staged.pane o.pane.toNat with srcRow := o.row.toNat, srcCol := o.col.toNat } } })
      else refuse .badValue s := by
  obtain ⟨h1, h2, h3⟩ := h
  unfold scrollAction
  rw [upTo?_of_le h1, upTo?_of_le h2, upTo?_of_le h3]

theorem scroll_request (s : State) (tag : Byte) (o : ScrollOps) :
    Request (.scroll tag (.ops o)) s (scrollChecks o s) (fun f t =>
      Answered s t f .empty ∧
      t = { s with
        fli := t.fli
        sco := { s.sco with staged := { s.sco.staged with panes := t.sco.staged.panes } } } ∧
      ∀ q, t.sco.staged.pane q =
        if q = o.pane.toNat then
          { s.sco.staged.pane q with srcRow := o.row.toNat, srcCol := o.col.toNat }
        else s.sco.staged.pane q) := by
  refine request_of_answers (act := scrollAction o) rfl rfl ?_
  unfold scrollChecks
  refine .check (fun hbad => scrollAction_badValue _ (of_decide_eq_false hbad)) fun hok => ?_
  have heq := scrollAction_eq s.dropHead (of_decide_eq_true hok)
  refine .check (fun hcrawl => heq.trans (if_neg (of_decide_eq_false hcrawl))) fun hpage => ?_
  refine .accepted _ _ (heq.trans (if_pos (of_decide_eq_true hpage))) ⟨answered_accept rfl _ _, rfl, fun q => ?_⟩
  refine (Table.get_set ..).trans ?_
  split
  · next hq => rw [hq]; rfl
  · rfl

theorem clipAction_badValue {o : ClipOps} (s : State)
    (h : ¬ (o.window.toNat ≤ 1 ∧ o.top.toNat ≤ 63 ∧ o.left.toNat ≤ 159 ∧ o.rows.toNat ≤ 64 ∧ o.cols.toNat ≤ 160)) :
    clipAction o s = refuse .badValue s := by
  unfold clipAction
  split
  · next hw htop hleft hrows hcols =>
    exact absurd ⟨(onOff?_eq_some.mp hw).1, (upTo?_eq_some.mp htop).1, (upTo?_eq_some.mp hleft).1,
      (upTo?_eq_some.mp hrows).1, (upTo?_eq_some.mp hcols).1⟩ h
  · rfl

theorem clipAction_eq {o : ClipOps} (s : State)
    (h : o.window.toNat ≤ 1 ∧ o.top.toNat ≤ 63 ∧ o.left.toNat ≤ 159 ∧ o.rows.toNat ≤ 64 ∧ o.cols.toNat ≤ 160) :
    clipAction o s = accept .empty (s.setSco { s.sco with
      staged := s.sco.staged.setWindow (decide (o.window = 1))
        ⟨o.top.toNat, o.left.toNat, o.rows.toNat, o.cols.toNat⟩ }) := by
  obtain ⟨h1, h2, h3, h4, h5⟩ := h
  unfold clipAction
  rw [onOff?_eq_some.mpr ⟨h1, rfl⟩, upTo?_of_le h2, upTo?_of_le h3, upTo?_of_le h4, upTo?_of_le h5]

/-- The window that a choice of W0 0, W1 1 names is replaced (R127). -/
theorem setWindow_eq (k : Composition) {b : Byte} (h : b.toNat ≤ 1) (w : Window) :
    k.setWindow (decide (b = 1)) w = { k with w0 := if b = 0 then w else k.w0, w1 := if b = 0 then k.w1 else w } := by
  by_cases h0 : b = 0
  · rw [if_pos h0, if_pos h0, h0]; rfl
  · rw [if_neg h0, if_neg h0, decide_eq_true ((kind_eq_one_iff h).mpr h0)]; rfl

theorem clip_request (s : State) (tag : Byte) (o : ClipOps) :
    Request (.clip tag (.ops o)) s (clipChecks o) (fun f t =>
      Answered s t f .empty ∧
      let w : Window := ⟨o.top.toNat, o.left.toNat, o.rows.toNat, o.cols.toNat⟩
      t = { s with
        fli := t.fli
        sco := { s.sco with
          staged := { s.sco.staged with
            w0 := if o.window = 0 then w else s.sco.staged.w0
            w1 := if o.window = 0 then s.sco.staged.w1 else w } } }) := by
  refine request_of_answers (act := clipAction o) rfl rfl ?_
  unfold clipChecks
  refine .check (fun hbad => clipAction_badValue _ (of_decide_eq_false hbad)) fun hok => ?_
  have heq := clipAction_eq s.dropHead (of_decide_eq_true hok)
  rw [setWindow_eq _ (of_decide_eq_true hok).1] at heq
  exact .accepted _ _ heq ⟨answered_accept rfl _ _, rfl⟩

/-- Settles O13: the three requests from their actions, check by check. -/
theorem paneScrollClipStage : Obligations.PaneScrollClipStage :=
  ⟨fun s tag o => ⟨pane_request s tag o, fun _ => wrongLength_of_withOps rfl rfl⟩,
    fun s tag o => ⟨scroll_request s tag o, fun _ => wrongLength_of_withOps rfl rfl⟩,
    fun s tag o => ⟨clip_request s tag o, fun _ => wrongLength_of_withOps rfl rfl⟩⟩

/-! ## CRAWL and CRAWLCTL -/

theorem crawlAction_badValue {o : CrawlOps} (s : State)
    (h : ¬ (1 ≤ o.codes.length ∧ o.codes.length ≤ 240 ∧ o.fg.toNat ≤ 63 ∧ o.bg.toNat ≤ 63)) :
    crawlAction o s = refuse .badValue s := by
  unfold crawlAction
  split
  · next hfg hbg =>
    have h1 := (paletteIndex?_eq_some.mp hfg).1
    have h2 := (paletteIndex?_eq_some.mp hbg).1
    exact if_pos (by omega)
  · rfl

theorem crawlAction_eq {o : CrawlOps} (s : State)
    (h : 1 ≤ o.codes.length ∧ o.codes.length ≤ 240 ∧ o.fg.toNat ≤ 63 ∧ o.bg.toNat ≤ 63) :
    crawlAction o s =
      if 1024 < s.sco.ring.length + o.codes.length then refuse .full s
      else accept (.ring (s.sco.ring.length + o.codes.length))
        (s.setSco (s.sco.append (o.codes.map fun c => ⟨c, o.fg.toNat, o.bg.toNat⟩))) := by
  obtain ⟨h1, h2, h3, h4⟩ := h
  unfold crawlAction
  rw [paletteIndex?_of_le h3, paletteIndex?_of_le h4]
  simp only [if_neg (show ¬ (o.codes.length = 0 ∨ 240 < o.codes.length) by omega), State.setSco_sco, Sco.append,
    List.length_append, List.length_map]
  rfl

theorem crawl_request (s : State) (tag : Byte) (o : CrawlOps) :
    Request (.crawl tag (.ops o)) s (crawlChecks o s) (fun f t =>
      Answered s t f (.ring (s.sco.ring.length + o.codes.length)) ∧
      t = { s with
        fli := t.fli
        sco := { s.sco with
          ring := s.sco.ring ++ o.codes.map fun c => ⟨c, o.fg.toNat, o.bg.toNat⟩
          entered := s.sco.entered || decide (s.sco.ring = [] ∧ s.sco.lead = 0) } }) := by
  refine request_of_answers (act := crawlAction o) rfl rfl ?_
  unfold crawlChecks
  refine .check (fun hbad => crawlAction_badValue _ (of_decide_eq_false hbad)) fun hok => ?_
  have heq := crawlAction_eq s.dropHead (of_decide_eq_true hok)
  refine .check (fun hbig => heq.trans (if_pos (Nat.not_le.mp (of_decide_eq_false hbig)))) fun hfits => ?_
  have hentered : (s.sco.ring.isEmpty && s.sco.lead == 0) = decide (s.sco.ring = [] ∧ s.sco.lead = 0) := by
    rw [Bool.decide_and]
    cases s.sco.ring <;> rfl
  refine .accepted _ _ (heq.trans (if_neg (Nat.not_lt.mpr (of_decide_eq_true hfits))))
    ⟨answered_accept rfl _ _, ?_⟩
  rw [← hentered]
  rfl

theorem crawlctlAction_badValue {o : CrawlctlOps} (s : State)
    (h : ¬ (o.speed.toNat ≤ 8 ∧ o.blank.toNat ≤ 63 ∧ o.clear.toNat ≤ 1)) :
    crawlctlAction o s = refuse .badValue s := by
  unfold crawlctlAction
  split
  · next hs hb hc =>
    have h2 := (paletteIndex?_eq_some.mp hb).1
    exact absurd ⟨(upTo?_eq_some.mp hs).1, by omega, (onOff?_eq_some.mp hc).1⟩ h
  · rfl

/-- The compositor after a CRAWLCTL in range (R135). -/
def crawlSet (c : Sco) (o : CrawlctlOps) : Sco :=
  { c with
    speed := o.speed.toNat
    blank := o.blank.toNat
    ring := if o.clear = 1 then [] else c.ring
    lead := if o.clear = 1 then c.active.crawlCols else c.lead
    offset := if o.clear = 1 then 0 else c.offset
    entered := if o.clear = 1 then false else c.entered }

theorem crawlctlAction_eq {o : CrawlctlOps} (s : State)
    (h : o.speed.toNat ≤ 8 ∧ o.blank.toNat ≤ 63 ∧ o.clear.toNat ≤ 1) :
    crawlctlAction o s =
      accept (.ring (if o.clear = 1 then 0 else s.sco.ring.length)) (s.setSco (crawlSet s.sco o)) := by
  obtain ⟨h1, h2, h3⟩ := h
  unfold crawlctlAction
  rw [upTo?_of_le h1, paletteIndex?_of_le h2, onOff?_eq_some.mpr ⟨h3, rfl⟩]
  by_cases hc : o.clear = 1
  · simp only [crawlSet, if_pos hc, decide_eq_true_eq, Sco.clearCrawl_eq, State.setSco_sco, List.length_nil]
  · simp only [crawlSet, if_neg hc, decide_eq_true_eq, State.setSco_sco]

theorem crawlctl_request (s : State) (tag : Byte) (o : CrawlctlOps) :
    Request (.crawlctl tag (.ops o)) s (crawlctlChecks o) (fun f t =>
      Answered s t f (.ring (if o.clear = 1 then 0 else s.sco.ring.length)) ∧
      t = { s with fli := t.fli, sco := crawlSet s.sco o }) := by
  refine request_of_answers (act := crawlctlAction o) rfl rfl ?_
  unfold crawlctlChecks
  refine .check (fun hbad => crawlctlAction_badValue _ (of_decide_eq_false hbad)) fun hok => ?_
  exact .accepted _ _ (crawlctlAction_eq s.dropHead (of_decide_eq_true hok)) ⟨answered_accept rfl _ _, rfl⟩

/-- Settles O14: the two requests from their actions, check by check. -/
theorem crawlRequests : Obligations.CrawlRequests :=
  ⟨fun s tag o => ⟨crawl_request s tag o, fun _ => wrongLength_of_withOps rfl rfl⟩,
    fun s tag o => ⟨crawlctl_request s tag o, fun _ => wrongLength_of_withOps rfl rfl⟩⟩

end Sys2Proof.Claims
end

-- ==== Proofs: what a screen cell shows ====
section
/-!
O15. The cut of a pane, the candidates, the winner as the best of the candidates by number, and what the winner shows.
-/

namespace Sys2Proof.Claims

open Sys2Proof.Machine

/-! ## Candidates -/

theorem holds_iff {w : Window} {r c : Nat} : w.holds r c = true ↔ inWindow w r c := by
  simp only [Window.holds, inWindow, Bool.and_eq_true, decide_eq_true_eq, and_assoc]

theorem covers_iff {p : Pane} {r c : Nat} :
    p.covers r c = true ↔ p.scrRow ≤ r ∧ r < p.scrRow + p.rows ∧ p.scrCol ≤ c ∧ c < p.scrCol + p.cols := by
  simp only [Pane.covers, Bool.and_eq_true, decide_eq_true_eq, and_assoc]

/-- A mode that is off plays no part in a cut. -/
theorem cut?_eq_none {m : ClipMode} {w : Window} {r c : Nat} (h : m.cut? (w.holds r c) = none) :
    m = .off ∧ ¬ cuts m w r c := by
  cases m with
  | off => exact ⟨rfl, fun h => h.elim (fun h => nomatch h.1) fun h => nomatch h.1⟩
  | inside => exact nomatch h
  | outside => exact nomatch h

/-- A mode that is not off says whether its window cuts (R122). -/
theorem cut?_eq_some {m : ClipMode} {w : Window} {r c : Nat} {a : Bool} (h : m.cut? (w.holds r c) = some a) :
    m ≠ .off ∧ (a = true ↔ cuts m w r c) := by
  cases m with
  | off => exact nomatch h
  | inside =>
    obtain rfl := Option.some.inj h
    exact ⟨nofun, holds_iff.trans ⟨fun h => .inl ⟨rfl, h⟩, fun h => h.elim And.right fun h => nomatch h.1⟩⟩
  | outside =>
    obtain rfl := Option.some.inj h
    rw [Bool.not_eq_true', ← Bool.not_eq_true]
    exact ⟨nofun, (not_congr holds_iff).trans
      ⟨fun h => .inr ⟨rfl, h⟩, fun h => h.elim (fun h => nomatch h.1) And.right⟩⟩

theorem cut_iff {k : Composition} {p : Pane} {r c : Nat} : k.cut p r c = true ↔ isCut k p r c := by
  unfold Composition.cut isCut
  split
  · next h0 h1 =>
    obtain ⟨hoff, hc0⟩ := cut?_eq_none h0
    rw [if_neg fun h => h.1 hoff]
    exact iff_of_false nofun (not_or_intro hc0 (cut?_eq_none h1).2)
  · next h0 h1 =>
    obtain ⟨hoff, hc1⟩ := cut?_eq_none h1
    rw [if_neg fun h => h.2.1 hoff, or_iff_left hc1]
    exact (cut?_eq_some h0).2
  · next h0 h1 =>
    obtain ⟨hoff, hc0⟩ := cut?_eq_none h0
    rw [if_neg fun h => h.1 hoff, or_iff_right hc0]
    exact (cut?_eq_some h1).2
  · next h0 h1 =>
    obtain ⟨hon0, hc0⟩ := cut?_eq_some h0
    obtain ⟨hon1, hc1⟩ := cut?_eq_some h1
    cases hl : p.logic with
    | and => rw [if_pos ⟨hon0, hon1, rfl⟩, Bool.and_eq_true, hc0, hc1]
    | or => rw [if_neg (fun h => nomatch h.2.2), Bool.or_eq_true, hc0, hc1]

theorem candidate_iff {k : Composition} {p : Pane} {r c : Nat} :
    k.candidate p r c = true ↔
      1 ≤ p.priority ∧ (p.scrRow ≤ r ∧ r < p.scrRow + p.rows ∧ p.scrCol ≤ c ∧ c < p.scrCol + p.cols) ∧
        ¬ isCut k p r c := by
  rw [Composition.candidate, Bool.and_eq_true, Bool.and_eq_true, decide_eq_true_eq, covers_iff, Bool.not_eq_true',
    ← Bool.not_eq_true, cut_iff, and_assoc]

/-! ## The winner -/

theorem bestPane_eq_none {l : List Pane} (h : bestPane l = none) : l = [] := by
  cases l with
  | nil => rfl
  | cons p rest =>
    unfold bestPane at h
    split at h
    · exact nomatch h
    · split at h <;> exact nomatch h

/-- Pane `n` stands before pane `m`: its priority is higher, or the same with a number not higher (R129). -/
def standsBefore (f : Nat → Pane) (n m : Nat) : Prop :=
  (f m).priority < (f n).priority ∨ ((f m).priority = (f n).priority ∧ n ≤ m)

/-- The best of panes listed by rising number is one of them and stands before each of them (R129). -/
theorem bestPane_map {f : Nat → Pane} {ns : List Nat} (hns : ns.Pairwise (· < ·)) {p : Pane}
    (h : bestPane (ns.map f) = some p) : ∃ n ∈ ns, f n = p ∧ ∀ m ∈ ns, standsBefore f n m := by
  induction ns generalizing p with
  | nil => exact nomatch h
  | cons a ns ih =>
    obtain ⟨hlt, hrest⟩ := List.pairwise_cons.mp hns
    rw [List.map_cons, bestPane] at h
    split at h
    · next hnone =>
      obtain rfl := List.map_eq_nil_iff.mp (bestPane_eq_none hnone)
      obtain rfl := Option.some.inj h
      refine ⟨a, List.mem_singleton_self a, rfl, fun m hm => .inr ?_⟩
      obtain rfl := List.mem_singleton.mp hm
      exact ⟨rfl, le_rfl⟩
    · next q hq =>
      obtain ⟨n, hn, rfl, hbest⟩ := ih hrest hq
      split at h
      · next hle =>
        obtain rfl := Option.some.inj h
        refine ⟨a, List.mem_cons_self, rfl, fun m hm => ?_⟩
        rcases List.mem_cons.mp hm with rfl | hm
        · exact .inr ⟨rfl, le_rfl⟩
        · have hbefore := hbest m hm
          have ham := hlt m hm
          unfold standsBefore at hbefore ⊢
          omega
      · next hgt =>
        obtain rfl := Option.some.inj h
        refine ⟨n, List.mem_cons_of_mem a hn, rfl, fun m hm => ?_⟩
        rcases List.mem_cons.mp hm with rfl | hm
        · exact .inl (Nat.lt_of_not_le hgt)
        · exact hbest m hm

/-- The winner is the best of the candidates listed by number. -/
theorem winner_eq (k : Composition) (r c : Nat) :
    k.winner r c = bestPane (((List.range 8).filter fun n => k.candidate (k.pane n) r c).map k.pane) := by
  rw [Composition.winner, List.filter_map]
  rfl

theorem winner_eq_some {k : Composition} {r c : Nat} {p : Pane} (h : k.winner r c = some p) :
    ∃ n < 8, k.pane n = p ∧ k.candidate p r c = true ∧
      ∀ m < 8, k.candidate (k.pane m) r c = true →
        (k.pane m).priority < p.priority ∨ ((k.pane m).priority = p.priority ∧ n ≤ m) := by
  rw [winner_eq] at h
  obtain ⟨n, hn, rfl, hbest⟩ := bestPane_map (List.pairwise_lt_range.filter _) h
  obtain ⟨hn8, hcand⟩ := List.mem_filter.mp hn
  exact ⟨n, List.mem_range.mp hn8, rfl, hcand, fun m hm hc =>
    hbest m (List.mem_filter.mpr ⟨List.mem_range.mpr hm, hc⟩)⟩

theorem winner_eq_none {k : Composition} {r c : Nat} (h : k.winner r c = none) :
    ∀ m < 8, k.candidate (k.pane m) r c = false := by
  rw [winner_eq] at h
  have hnil := List.filter_eq_nil_iff.mp (List.map_eq_nil_iff.mp (bestPane_eq_none h))
  exact fun m hm => Bool.not_eq_true _ ▸ hnil m (List.mem_range.mpr hm)

/-! ## What a screen cell shows -/

/-- On the grid a row is in the band of the area, or the area is the whole screen (R128, R165). -/
theorem inBand_iff {d : Dtg} {r : Nat} (hr : r < d.activeFormat.gridRows) :
    d.inBand r = true ↔ d.activeArea = .full ∨ ∃ a b, d.activeArea = .band a b ∧ a ≤ r ∧ r ≤ b := by
  unfold Dtg.inBand
  cases d.activeArea with
  | full => exact iff_of_true rfl (.inl rfl)
  | band first last => simp [hr]

theorem shown_of_outside {s : State} {r : Nat} (h : ¬ s.dtg.inBand r = true) (c : Nat) : s.shown r c = .back := if_neg h

theorem shown_panes {s : State} {r : Nat} (h : s.dtg.inBand r = true) (hd : s.sco.display = .panes) (c : Nat) :
    s.shown r c = (s.sco.active.winner r c).elim .back fun p => s.paneShows p r c := by
  rw [State.shown, if_pos h, hd]
  cases s.sco.active.winner r c <;> rfl

theorem shown_banner {s : State} {r : Nat} (h : s.dtg.inBand r = true) (hd : s.sco.display = .banner) (c : Nat) :
    s.shown r c = (s.bannerAt r c).elim .back .banner := by
  rw [State.shown, if_pos h, hd]
  cases s.bannerAt r c <;> rfl

theorem paneShows_crawl {s : State} {p : Pane} (h : p.kind = .crawl) (r c : Nat) :
    s.paneShows p r c = .crawl ((c - p.scrCol) * s.dtg.activeFormat.cellW) := by
  rw [State.paneShows, h]

theorem paneShows_page {s : State} {p : Pane} (h : p.kind = .page) (r c : Nat) :
    s.paneShows p r c = (p.page.bind s.page).elim .back fun pg =>
      if p.srcRow + (r - p.scrRow) < pg.rows ∧ p.srcCol + (c - p.scrCol) < pg.cols then
        .cell (pg.base + (p.srcRow + (r - p.scrRow)) * pg.cols + (p.srcCol + (c - p.scrCol)))
      else .back := by
  rw [State.paneShows, h]
  cases p.page.bind s.page <;> rfl

/-- The banner line in the middle of the grid (R132). -/
theorem bannerAt_elim (s : State) (r c : Nat) :
    (s.bannerAt r c).elim Shown.back .banner =
      let left := (s.dtg.activeFormat.gridCols - s.gcu.banner.length) / 2
      if r = s.dtg.activeFormat.gridRows / 2 ∧ left ≤ c ∧ c < left + s.gcu.banner.length then
        .banner (s.gcu.banner.getD (c - left) 0)
      else .back := by
  unfold State.bannerAt
  simp only
  split
  · next h =>
    have hlt : c - (s.dtg.activeFormat.gridCols - s.gcu.banner.length) / 2 < s.gcu.banner.length := by omega
    rw [List.getD_eq_getElem?_getD, List.getElem?_eq_getElem hlt]
    rfl
  · rfl

/-- Settles O15: the winner is the best candidate; a cell of the grid shows by band, display state and winner. -/
theorem highestCandidateWins : Obligations.HighestCandidateWins := by
  refine ⟨fun k r c => ⟨fun p => candidate_iff, fun p => winner_eq_some, winner_eq_none⟩, fun s r c hr _ => ?_⟩
  intro inBand
  have hband : s.dtg.inBand r = true ↔ inBand := inBand_iff hr
  refine ⟨fun hout => shown_of_outside (mt hband.mp hout) c, fun hin hd => ?_, fun hin hd => ?_⟩
  · have hshown := shown_panes (hband.mpr hin) hd c
    refine ⟨fun hnone => by rw [hshown, hnone]; rfl, fun p hp => ?_⟩
    rw [hp] at hshown
    refine ⟨fun hk => hshown.trans (paneShows_crawl hk r c), fun hk pg hpg => ?_, fun hk hnone => ?_⟩
    · exact hshown.trans ((paneShows_page hk r c).trans (by rw [hpg]; rfl))
    · exact hshown.trans ((paneShows_page hk r c).trans (by rw [hnone]; rfl))
  · exact (shown_banner (hband.mpr hin) hd c).trans (bannerAt_elim s r c)

end Sys2Proof.Claims
end

-- ==== Proofs: the picture and the panel ====
section
/-!
O51. The colour path channel by channel, the pixel of a screen cell by what the cell shows, the range of a channel, and
the lines that the panel receives.
-/

namespace Sys2Proof.Claims

open Sys2Proof.Machine

/-! ## The colour path -/

/-- A channel of a working colour: channel-wise changes and combinations act on it alone. -/
structure Channel (π : Rgb3 → Nat) : Prop where
  map : ∀ f (c : Rgb3), π (c.map f) = f (π c)
  zip : ∀ f (c d : Rgb3), π (c.zip f d) = f (π c) (π d)

theorem channel_r : Channel Rgb3.r := ⟨fun _ _ => rfl, fun _ _ _ => rfl⟩
theorem channel_g : Channel Rgb3.g := ⟨fun _ _ => rfl, fun _ _ _ => rfl⟩
theorem channel_b : Channel Rgb3.b := ⟨fun _ _ => rfl, fun _ _ _ => rfl⟩

/-- One channel of the background of a cell under its flash reference (R152, R153). -/
def flashedChannel (s : State) (entry : Nat → Nat) (k : Cell) : Nat :=
  match k.ref.bind s.flashEntry with
  | none => entry k.bg
  | some e =>
    match e.kind with
    | .alert => if s.dtg.counter.toNat % 64 < 32 then entry e.colour else entry k.bg
    | .moving _ len rem _ => blend (flashRatio len rem) (entry k.bg) (entry e.colour)

/-- One channel less D where the cell is stale (R154). -/
def dimmedChannel (s : State) (k : Cell) (v : Nat) : Nat := if k.stale then v - s.gcu.dim else v

/-- One channel of the foreground on a background whose channel is `bg` (R155). -/
def foregroundChannel (s : State) (entry : Nat → Nat) (k : Cell) (bg : Nat) : Nat :=
  if k.flags.blk ∧ ¬ s.dtg.counter.toNat % 64 < 32 then bg
  else if k.flags.dim then dimmedChannel s k (entry k.fg) / 2 else dimmedChannel s k (entry k.fg)

/-- One channel under the colour mode (R156). -/
def modeChannel (m : ColourMode) (v : Nat) : Nat := if m = .full then v else if 128 ≤ v then 255 else 0

theorem channelOf_eq (s : State) (entry : Nat → Nat) (k : Cell) (y x : Nat) :
    channelOf s entry k y x =
      let bg := dimmedChannel s k (flashedChannel s entry k)
      modeChannel s.dtg.activeColour
        (if s.glyphPixel s.dtg.activeFormat (s.glyphOf k.code) y x ∨ (k.flags.und ∧ y + 1 = s.dtg.activeFormat.cellH)
          then foregroundChannel s entry k bg else bg) := rfl

theorem foreground_iff (s : State) (code : Code) (und : Bool) (y x : Nat) :
    s.foreground code und y x = true ↔
      s.glyphPixel s.dtg.activeFormat (s.glyphOf code) y x ∨ (und ∧ y + 1 = s.dtg.activeFormat.cellH) := by
  rw [State.foreground, Bool.or_eq_true, Bool.and_eq_true, beq_iff_eq]

section

variable {π : Rgb3 → Nat} (hπ : Channel π) (s : State) (k : Cell)
include hπ

theorem channel_flashBg :
    π (s.flashBg k.ref (s.lookup k.bg)) = flashedChannel s (fun i => π (s.lookup i)) k := by
  unfold State.flashBg flashedChannel
  cases k.ref.bind s.flashEntry with
  | none => rfl
  | some e =>
    simp only
    cases e.kind with
    | moving _ len rem _ => exact hπ.zip ..
    | alert => simp only [State.blink, decide_eq_true_eq, apply_ite π]

theorem channel_staleDim (c : Rgb3) : π (s.staleDim k.stale c) = dimmedChannel s k (π c) := by
  rw [State.staleDim, apply_ite π, hπ.map]
  rfl

theorem channel_mode (m : ColourMode) (c : Rgb3) : π (m.apply c) = modeChannel m (π c) := by
  cases m with
  | full => rfl
  | reduced =>
    rw [ColourMode.apply, hπ.map]
    rfl

/-- A channel of a cell's pixel by the steps of R151 to R156. -/
theorem channel_cellPixel (y x : Nat) :
    π (s.cellPixel k y x) = channelOf s (fun i => π (s.lookup i)) k y x := by
  have hblink : (k.flags.blk && !s.blink) = true ↔ k.flags.blk = true ∧ ¬ s.dtg.counter.toNat % 64 < 32 := by
    rw [Bool.and_eq_true, Bool.not_eq_true', State.blink, decide_eq_false_iff_not]
  rw [channelOf_eq]
  simp only [State.cellPixel, channel_mode hπ, apply_ite π, channel_staleDim hπ, channel_flashBg hπ, hπ.map,
    foreground_iff, hblink, foregroundChannel]

end

theorem cellPixel_eq (s : State) (k : Cell) (y x : Nat) :
    s.cellPixel k y x =
      ⟨channelOf s (fun i => (s.colour i).r.toNat) k y x, channelOf s (fun i => (s.colour i).g.toNat) k y x,
        channelOf s (fun i => (s.colour i).b.toNat) k y x⟩ := by
  have hr := channel_cellPixel channel_r s k y x
  have hg := channel_cellPixel channel_g s k y x
  have hb := channel_cellPixel channel_b s k y x
  calc s.cellPixel k y x = ⟨(s.cellPixel k y x).r, (s.cellPixel k y x).g, (s.cellPixel k y x).b⟩ := rfl
    _ = _ := by rw [hr, hg, hb]; rfl

/-! ## The pixel of a screen cell -/

/-- A cell of one colour shows that colour alone, whatever its glyph (R131). -/
theorem cellPixel_flat (s : State) (i y x : Nat) : s.cellPixel (plainCell 0 i i) y x = s.flatPixel i := by
  change s.dtg.activeColour.apply (if _ then s.lookup i else s.lookup i) = _
  rw [ite_self]
  rfl

theorem cellAt_back {s : State} {r c : Nat} (h : s.shown r c = .back) (y x : Nat) :
    s.cellAt r c y x = s.cellPixel (plainCell 0 s.gcu.back s.gcu.back) y x := by
  rw [State.cellAt, h, cellPixel_flat]

theorem cellAt_cell {s : State} {r c k : Nat} (h : s.shown r c = .cell k) (y x : Nat) :
    s.cellAt r c y x = s.cellPixel (s.cell k) y x := by
  rw [State.cellAt, h]

theorem cellAt_banner {s : State} {r c : Nat} {b : Byte} (h : s.shown r c = .banner b) (y x : Nat) :
    s.cellAt r c y x = s.cellPixel (plainCell (BitVec.ofNat 16 b.toNat) 15 s.gcu.back) y x := by
  rw [State.cellAt, h]
  rfl

/-- Before and after the text the crawl shows the blank colour (R137). -/
theorem crawlPixel_blank {s : State} {x : Nat}
    (h : (x + s.sco.offset) / s.dtg.activeFormat.cellW < s.sco.lead ∨
      s.sco.lead + s.sco.ring.length ≤ (x + s.sco.offset) / s.dtg.activeFormat.cellW) (y x' : Nat) :
    s.crawlPixel x y = s.cellPixel (plainCell 0 s.sco.blank s.sco.blank) y x' := by
  rw [cellPixel_flat, State.crawlPixel]
  split
  · rfl
  · next hlead => rw [List.getElem?_eq_none (by omega)]

/-- Between them it shows its characters (R137). -/
theorem crawlPixel_char {s : State} {x : Nat} {ch : CrawlChar}
    (hlead : s.sco.lead ≤ (x + s.sco.offset) / s.dtg.activeFormat.cellW)
    (hch : s.sco.ring[(x + s.sco.offset) / s.dtg.activeFormat.cellW - s.sco.lead]? = some ch) (y : Nat) :
    s.crawlPixel x y =
      s.cellPixel (plainCell ch.code ch.fg ch.bg) y ((x + s.sco.offset) % s.dtg.activeFormat.cellW) := by
  rw [State.crawlPixel, if_neg (Nat.not_lt.mpr hlead), hch]

theorem cellAt_crawl {s : State} {r c left : Nat} (h : s.shown r c = .crawl left) (y x : Nat) :
    s.cellAt r c y x = s.crawlPixel (left + x) y := by
  rw [State.cellAt, h]

/-- Every pixel of the picture is one of some cell record. -/
theorem cellAt_eq_cellPixel (s : State) (r c y x : Nat) : ∃ k x', s.cellAt r c y x = s.cellPixel k y x' := by
  cases h : s.shown r c with
  | back => exact ⟨_, _, cellAt_back h y x⟩
  | cell k => exact ⟨_, _, cellAt_cell h y x⟩
  | banner b => exact ⟨_, _, cellAt_banner h y x⟩
  | crawl left =>
    rw [cellAt_crawl h]
    by_cases hblank : (left + x + s.sco.offset) / s.dtg.activeFormat.cellW < s.sco.lead ∨
        s.sco.lead + s.sco.ring.length ≤ (left + x + s.sco.offset) / s.dtg.activeFormat.cellW
    · exact ⟨_, _, crawlPixel_blank hblank y x⟩
    · rw [not_or, Nat.not_lt, Nat.not_le] at hblank
      exact ⟨_, _, crawlPixel_char hblank.1 (List.getElem?_eq_getElem (by omega)) y⟩

/-! ## The range of a channel -/

theorem flashRatio_le {len rem : Nat} (hlen : 0 < len) (hrem : rem ≤ len) : flashRatio len rem ≤ 32 := by
  refine (Nat.div_le_of_le_mul ?_ : (31 * rem + len - 1) / len ≤ 32)
  omega

/-- A blend of two channels in range stays in range (R152). -/
theorem blend_le {r bg c : Nat} (hr : r ≤ 32) (hbg : bg ≤ 255) (hc : c ≤ 255) : blend r bg c ≤ 255 := by
  have h1 := Nat.mul_le_mul_right (32 - r) hbg
  have h2 := Nat.mul_le_mul_right r hc
  refine Nat.le_of_lt_succ (Nat.div_lt_of_lt_mul ?_ : (bg * (32 - r) + c * r + 16) / 32 < 256)
  omega

theorem flashedChannel_le {s : State} (hs : s.flashLaw) {entry : Nat → Nat} (hentry : ∀ i, entry i ≤ 255) (k : Cell) :
    flashedChannel s entry k ≤ 255 := by
  obtain ⟨-, hlaws, -⟩ := hs
  unfold flashedChannel
  split
  · exact hentry _
  · next e he =>
    obtain ⟨i, -, hi⟩ := Option.bind_eq_some_iff.mp he
    obtain ⟨-, -, -, hkind⟩ := (hlaws _ (State.mem_flash hi)).2 e rfl
    split
    · split
      · exact hentry _
      · exact hentry _
    · next len rem _ hmoving =>
      rw [hmoving] at hkind
      obtain ⟨hrem, hle, -⟩ := hkind
      exact blend_le (flashRatio_le (by omega) hle) (hentry _) (hentry _)

theorem dimmedChannel_le (s : State) (k : Cell) (v : Nat) : dimmedChannel s k v ≤ v := by
  unfold dimmedChannel
  split
  · exact Nat.sub_le ..
  · exact le_rfl

theorem foregroundChannel_le (s : State) {entry : Nat → Nat} (hentry : ∀ i, entry i ≤ 255) (k : Cell) {bg : Nat}
    (hbg : bg ≤ 255) : foregroundChannel s entry k bg ≤ 255 := by
  have hfg := (dimmedChannel_le s k (entry k.fg)).trans (hentry k.fg)
  unfold foregroundChannel
  split
  · exact hbg
  · split
    · exact (Nat.div_le_self ..).trans hfg
    · exact hfg

theorem modeChannel_le (m : ColourMode) {v : Nat} (hv : v ≤ 255) : modeChannel m v ≤ 255 := by
  unfold modeChannel
  split
  · exact hv
  · split <;> decide

/-- Every channel is in range (R156). -/
theorem channelOf_le {s : State} (hs : s.flashLaw) {entry : Nat → Nat} (hentry : ∀ i, entry i ≤ 255) (k : Cell)
    (y x : Nat) : channelOf s entry k y x ≤ 255 := by
  have hbg := (dimmedChannel_le s k _).trans (flashedChannel_le hs hentry k)
  rw [channelOf_eq]
  refine modeChannel_le _ ?_
  split
  · exact foregroundChannel_le s hentry k hbg
  · exact hbg

/-- Under REDUCED colour a channel is 0 or 255 (R156). -/
theorem modeChannel_reduced (v : Nat) : modeChannel .reduced v = 0 ∨ modeChannel .reduced v = 255 := by
  change (if 128 ≤ v then 255 else 0) = 0 ∨ (if 128 ≤ v then 255 else 0) = 255
  split
  · exact .inr rfl
  · exact .inl rfl

section

variable {π : Rgb3 → Nat} (hπ : Channel π) {s : State} (r c y x : Nat)
include hπ

theorem channel_cellAt_le (hs : s.flashLaw) (hentry : ∀ i, π (s.lookup i) ≤ 255) : π (s.cellAt r c y x) ≤ 255 := by
  obtain ⟨k, x', hp⟩ := cellAt_eq_cellPixel s r c y x
  rw [hp, channel_cellPixel hπ]
  exact channelOf_le hs hentry ..

theorem channel_cellAt_reduced (h : s.dtg.activeColour = .reduced) :
    π (s.cellAt r c y x) = 0 ∨ π (s.cellAt r c y x) = 255 := by
  obtain ⟨k, x', hp⟩ := cellAt_eq_cellPixel s r c y x
  rw [hp, channel_cellPixel hπ, channelOf_eq, h]
  exact modeChannel_reduced _

end

theorem cellAt_inRange {s : State} (hs : s.flashLaw) (r c y x : Nat) :
    let p := s.cellAt r c y x
    p.r ≤ 255 ∧ p.g ≤ 255 ∧ p.b ≤ 255 ∧
      (s.dtg.activeColour = .reduced → ∀ v ∈ [p.r, p.g, p.b], v = 0 ∨ v = 255) := by
  have hbyte : ∀ b : Byte, b.toNat ≤ 255 := fun b => Nat.le_of_lt_succ b.isLt
  refine ⟨channel_cellAt_le channel_r r c y x hs fun _ => hbyte _,
    channel_cellAt_le channel_g r c y x hs fun _ => hbyte _,
    channel_cellAt_le channel_b r c y x hs fun _ => hbyte _, fun hred v hv => ?_⟩
  simp only [List.mem_cons, List.not_mem_nil, or_false] at hv
  rcases hv with rfl | rfl | rfl
  · exact channel_cellAt_reduced channel_r r c y x hred
  · exact channel_cellAt_reduced channel_g r c y x hred
  · exact channel_cellAt_reduced channel_b r c y x hred

/-! ## The lines of the panel -/

/-- The pixels of a line are sent: active lines are, and the line is not a blank one (R159, R162). -/
def lineActive (s : State) (l : Nat) : Prop :=
  s.dtg.power = .awake ∧ s.dtg.phase = .scan ∧ s.dtg.activeFormat.blankLines ≤ l ∧ l < s.dtg.activeFormat.lines

theorem sending_iff (s : State) : s.sending = true ↔ s.dtg.power = .awake ∧ s.dtg.phase = .scan := by
  rw [State.sending, Bool.and_eq_true, beq_iff_eq, beq_iff_eq]

theorem pixels_of_active {s : State} {l : Nat} (h : lineActive s l) :
    (s.panelLine l).pixels = s.pixelLine (l - s.dtg.activeFormat.blankLines) := by
  obtain ⟨hpower, hphase, hline⟩ := h
  rw [State.panelLine, Format.activeLine?, if_pos hline]
  exact if_pos ((sending_iff s).mpr ⟨hpower, hphase⟩)

theorem pixels_of_not_active {s : State} {l : Nat} (h : ¬ lineActive s l) : (s.panelLine l).pixels = [] := by
  refine List.eq_nil_of_length_eq_zero ((s.panelLine_length l).trans (if_neg fun hsend => h ?_))
  obtain ⟨hpower, hphase⟩ := (sending_iff s).mp hsend.1
  exact ⟨hpower, hphase, hsend.2⟩

theorem getElem?_pixelLine (s : State) (py : Nat) {x : Nat} (hx : x < s.dtg.activeFormat.pixelW) :
    (s.pixelLine py)[x]? = some (s.pixel py x) := by
  rw [State.pixelLine, List.getElem?_map, List.getElem?_range hx]
  rfl

theorem panel_of_pixel {s : State} {l x : Nat} {p : Rgb3} (h : (s.panelLine l).pixels[x]? = some p) :
    s.panel l x = (true, p) := by
  rw [State.panel, h]

theorem panel_of_no_pixels {s : State} {l : Nat} (h : (s.panelLine l).pixels = []) (x : Nat) :
    s.panel l x = (false, s.idlePd l x) := by
  rw [State.panel, h]
  rfl

/-- What the panel receives in a line (R162, R166, R170). -/
theorem panelLine_sends (s : State) (l : Nat) :
    let f := s.dtg.activeFormat
    let active := s.dtg.power = .awake ∧ s.dtg.phase = .scan ∧ f.blankLines ≤ l ∧ l < f.lines
    (active → (s.panelLine l).pixels.length = f.pixelW ∧
      ∀ x < f.pixelW,
        let p := s.cellAt ((l - f.blankLines) / f.cellH) (x / f.cellW) ((l - f.blankLines) % f.cellH) (x % f.cellW)
        (s.panelLine l).pixels[x]? = some p ∧ s.panel l x = (true, p)) ∧
    (¬ active → (s.panelLine l).pixels = [] ∧ ∀ x, (s.panel l x).1 = false) ∧
    (s.dtg.power = .asleep → ∀ x, s.panel l x = (false, ⟨0, 0, 0⟩)) ∧
    ((s.panelLine l).hs = true ↔ s.dtg.power = .awake ∧ l < f.lines) ∧
    ((s.panelLine l).vs = true ↔ s.dtg.power = .awake ∧ l = 0) ∧ s.pclk = f.pixelClock := by
  refine ⟨fun h => ?_, fun h => ?_, fun h x => ?_, ?_, ?_, rfl⟩
  · have hpixels := pixels_of_active h
    refine ⟨by rw [hpixels, State.pixelLine, List.length_map, List.length_range], fun x hx => ?_⟩
    have hx' := (congrArg (·[x]?) hpixels).trans (getElem?_pixelLine s _ hx)
    exact ⟨hx', panel_of_pixel hx'⟩
  · have hpixels := pixels_of_not_active h
    exact ⟨hpixels, fun x => by rw [panel_of_no_pixels hpixels]⟩
  · have hnot : ¬ lineActive s l := fun ha => nomatch h.symm.trans ha.1
    rw [panel_of_no_pixels (pixels_of_not_active hnot), State.idlePd, h]
  · change (s.dtg.power == .awake && decide (l < s.dtg.activeFormat.lines)) = true ↔ _
    rw [Bool.and_eq_true, beq_iff_eq, decide_eq_true_eq]
  · change (s.dtg.power == .awake && l == 0) = true ↔ _
    rw [Bool.and_eq_true, beq_iff_eq, beq_iff_eq]

theorem lines_pos (f : Format) : 0 < f.lines := by cases f <;> decide

/-- The lines of a frame while awake: HS marks each, VS the first alone (R170). -/
theorem frameLines_marks (f : Format) (reads : Nat → State)
    (h : ∀ l, (reads l).dtg.power = .awake ∧ (reads l).dtg.activeFormat = f) :
    (frameLines f reads).length = f.lines ∧
    (frameLines f reads).countP (·.hs) = f.lines ∧ (frameLines f reads).countP (·.vs) = 1 ∧
    ∀ l < f.lines, (frameLines f reads)[l]? = some ((reads l).panelLine l) := by
  have hlength : (frameLines f reads).length = f.lines := by rw [frameLines, List.length_map, List.length_range]
  refine ⟨hlength, ?_, ?_, fun l hl => ?_⟩
  · refine (List.countP_eq_length.mpr fun p hp => ?_).trans hlength
    obtain ⟨l, hl, rfl⟩ := List.mem_map.mp hp
    obtain ⟨-, -, -, hhs, -⟩ := panelLine_sends (reads l) l
    exact hhs.mpr ⟨(h l).1, (h l).2 ▸ List.mem_range.mp hl⟩
  · have hfirst : ∀ l, ((reads l).panelLine l).vs = (l == 0) := fun l => by
      obtain ⟨-, -, -, -, hvs, -⟩ := panelLine_sends (reads l) l
      rw [Bool.eq_iff_iff, hvs, beq_iff_eq, and_iff_right (h l).1]
    rw [frameLines, List.countP_map, List.countP_congr fun l _ => by rw [Function.comp_apply, hfirst]]
    exact List.count_eq_one_of_mem List.nodup_range (List.mem_range.mpr (lines_pos f))
  · rw [frameLines, List.getElem?_map, List.getElem?_range hl]
    rfl

/-- Settles O51: the pixel of a cell by its channels, of a screen cell by what it shows, and the lines of the panel. -/
theorem pixelChannelsInRange : Obligations.PixelChannelsInRange := by
  refine ⟨cellPixel_eq, fun s r c y x => ?_, fun s r c y x hs => cellAt_inRange hs r c y x, panelLine_sends,
    frameLines_marks⟩
  refine ⟨fun h => cellAt_back h y x, fun k h => cellAt_cell h y x, fun b h => cellAt_banner h y x, fun left h => ?_⟩
  exact ⟨fun hblank => (cellAt_crawl h y x).trans (crawlPixel_blank hblank y x),
    fun ch hlead hch => (cellAt_crawl h y x).trans (crawlPixel_char hlead hch y)⟩

end Sys2Proof.Claims
end

-- ==== Proofs: records of the colour unit ====
section
/-!
O8, O9. The requests of the Glyph and Colour Unit, check by check, and the glyph of a code bit by bit.
-/

namespace Sys2Proof.Claims

open Sys2Proof.Machine

/-! ## SCREEN -/

theorem screenAction_badValue {o : ScreenOps} (s : State)
    (h : ¬ (o.back.toNat ≤ 63 ∧ o.banner.length ≤ 40 ∧ ∀ b ∈ o.banner, 0x20 ≤ b.toNat ∧ b.toNat ≤ 0x7E)) :
    screenAction o s = refuse .badValue s := by
  unfold screenAction
  split
  · rfl
  · next hback =>
    have hindex := (paletteIndex?_eq_some.mp hback).1
    refine if_pos ?_
    by_contra hok
    simp only [not_or, Bool.not_eq_true', Bool.not_eq_false, all_printable_iff] at hok
    exact h ⟨by omega, by omega, hok.2⟩

theorem screenAction_eq {o : ScreenOps} (s : State)
    (h : o.back.toNat ≤ 63 ∧ o.banner.length ≤ 40 ∧ ∀ b ∈ o.banner, 0x20 ≤ b.toNat ∧ b.toNat ≤ 0x7E) :
    screenAction o s =
      accept .empty (s.setGcu { s.gcu with back := o.back.toNat, dim := o.dim.toNat, banner := o.banner }) := by
  obtain ⟨hback, hlength, hchars⟩ := h
  unfold screenAction
  rw [paletteIndex?_of_le hback]
  refine if_neg ?_
  rw [all_printable_iff.mpr hchars]
  simpa using hlength

theorem screen_request (s : State) (tag : Byte) (o : ScreenOps) :
    Request (.screen tag (.ops o)) s (screenChecks o) (fun f t =>
      Answered s t f .empty ∧
      t = { s with
        fli := t.fli
        gcu := { s.gcu with back := o.back.toNat, dim := o.dim.toNat, banner := o.banner } }) := by
  refine request_of_answers (act := screenAction o) rfl rfl ?_
  unfold screenChecks
  refine .check (fun hbad => screenAction_badValue _ (of_decide_eq_false hbad)) fun hok => ?_
  exact .accepted _ _ (screenAction_eq s.dropHead (of_decide_eq_true hok)) ⟨answered_accept rfl _ _, rfl⟩

/-! ## STYLE -/

/-- The parts of a STYLE request in range, the class apart (R148). -/
abbrev styleOk (o : StyleOps) : Prop :=
  (∀ b ∈ [o.fg, o.bg, o.up, o.down, o.alert], b.toNat ≤ 63) ∧ o.f.toNat ≤ 60 ∧
    ∀ b ∈ [o.dirtext, o.und, o.blk, o.dim], b.toNat ≤ 1

/-- The class that a STYLE request in range gives (R148). -/
def styleOf (o : StyleOps) : Style :=
  { fg := o.fg.toNat, bg := o.bg.toNat, up := o.up.toNat, down := o.down.toNat, alert := o.alert.toNat
    f := o.f.toNat, dirtext := decide (o.dirtext = 1)
    flags := ⟨decide (o.und = 1), decide (o.blk = 1), decide (o.dim = 1)⟩ }

theorem styleRecord?_eq_some {o : StyleOps} {st : Style} :
    styleRecord? o = some st ↔ styleOk o ∧ st = styleOf o := by
  simp only [styleRecord?, Option.bind_eq_bind, Option.bind_eq_some_iff, paletteIndex?_eq_some, upTo?_eq_some,
    onOff?_eq_some, Option.some.injEq, styleOk, List.forall_mem_cons, List.not_mem_nil, false_imp_iff, implies_true,
    and_true]
  constructor
  · rintro ⟨_, ⟨hfg, rfl⟩, _, ⟨hbg, rfl⟩, _, ⟨hup, rfl⟩, _, ⟨hdown, rfl⟩, _, ⟨halert, rfl⟩, _, ⟨hf, rfl⟩,
      _, ⟨hdirtext, rfl⟩, _, ⟨hund, rfl⟩, _, ⟨hblk, rfl⟩, _, ⟨hdim, rfl⟩, rfl⟩
    exact ⟨⟨by omega, hf, hdirtext, hund, hblk, hdim⟩, rfl⟩
  · rintro ⟨⟨⟨hfg, hbg, hup, hdown, halert⟩, hf, hdirtext, hund, hblk, hdim⟩, rfl⟩
    exact ⟨_, ⟨by omega, rfl⟩, _, ⟨by omega, rfl⟩, _, ⟨by omega, rfl⟩, _, ⟨by omega, rfl⟩, _, ⟨by omega, rfl⟩,
      _, ⟨hf, rfl⟩, _, ⟨hdirtext, rfl⟩, _, ⟨hund, rfl⟩, _, ⟨hblk, rfl⟩, _, ⟨hdim, rfl⟩, rfl⟩

theorem styleAction_badValue {o : StyleOps} (s : State) (h : ¬ (o.cls.toNat ≤ 15 ∧ styleOk o)) :
    styleAction o s = refuse .badValue s := by
  unfold styleAction
  split
  · next hcls hst => exact absurd ⟨(upTo?_eq_some.mp hcls).1, (styleRecord?_eq_some.mp hst).1⟩ h
  · rfl

theorem styleAction_eq {o : StyleOps} (s : State) (h : o.cls.toNat ≤ 15 ∧ styleOk o) :
    styleAction o s =
      accept .empty (s.setGcu { s.gcu with
        styles := Table.set .factory s.gcu.styles o.cls.toNat (styleOf o) }) := by
  unfold styleAction
  rw [upTo?_of_le h.1, styleRecord?_eq_some.mpr ⟨h.2, rfl⟩]

theorem style_request (s : State) (tag : Byte) (o : StyleOps) :
    Request (.style tag (.ops o)) s (styleChecks o) (fun f t =>
      Answered s t f .empty ∧ t = { s with fli := t.fli, gcu := { s.gcu with styles := t.gcu.styles } } ∧
      ∀ c, t.style c = if c = o.cls.toNat then styleOf o else s.style c) := by
  refine request_of_answers (act := styleAction o) rfl rfl ?_
  unfold styleChecks
  refine .check (fun hbad => styleAction_badValue _ (of_decide_eq_false hbad)) fun hok => ?_
  exact .accepted _ _ (styleAction_eq s.dropHead (of_decide_eq_true hok))
    ⟨answered_accept rfl _ _, rfl, fun c => Table.get_set ..⟩

/-! ## FONTAREA -/

theorem fontareaAction_badValue {o : FontAreaOps} (s : State)
    (h : ¬ (o.area.toNat ≤ 3 ∧ o.enabled.toNat ≤ 1 ∧ o.bank.toNat ≤ 3)) :
    fontareaAction o s = refuse .badValue s := by
  unfold fontareaAction
  split
  · next ha hen hbank =>
    exact absurd ⟨(upTo?_eq_some.mp ha).1, (onOff?_eq_some.mp hen).1, (upTo?_eq_some.mp hbank).1⟩ h
  · rfl

theorem fontareaAction_eq {o : FontAreaOps} (s : State)
    (h : o.area.toNat ≤ 3 ∧ o.enabled.toNat ≤ 1 ∧ o.bank.toNat ≤ 3) :
    fontareaAction o s =
      accept .empty (s.setGcu { s.gcu with
        areas := Table.set .disabled s.gcu.areas o.area.toNat
          ⟨decide (o.enabled = 1), o.start, o.mask, o.bank.toNat, o.base.toNat⟩ }) := by
  obtain ⟨ha, hen, hbank⟩ := h
  unfold fontareaAction
  rw [upTo?_of_le ha, onOff?_eq_some.mpr ⟨hen, rfl⟩, upTo?_of_le hbank]

theorem fontarea_request (s : State) (tag : Byte) (o : FontAreaOps) :
    Request (.fontarea tag (.ops o)) s (fontareaChecks o) (fun f t =>
      Answered s t f .empty ∧ t = { s with fli := t.fli, gcu := { s.gcu with areas := t.gcu.areas } } ∧
      ∀ a, t.area a =
        if a = o.area.toNat then ⟨decide (o.enabled = 1), o.start, o.mask, o.bank.toNat, o.base.toNat⟩
        else s.area a) := by
  refine request_of_answers (act := fontareaAction o) rfl rfl ?_
  unfold fontareaChecks
  refine .check (fun hbad => fontareaAction_badValue _ (of_decide_eq_false hbad)) fun hok => ?_
  exact .accepted _ _ (fontareaAction_eq s.dropHead (of_decide_eq_true hok))
    ⟨answered_accept rfl _ _, rfl, fun a => Table.get_set ..⟩

/-! ## The glyph of a code -/

/-- An area matches a code by the bits that its mask leaves clear (R145). -/
theorem fontArea_matches_iff {a : FontArea} {c : Code} :
    a.matches c = true ↔
      a.enabled = true ∧ ∀ bit < 16, a.mask.getLsbD bit = false → c.getLsbD bit = a.start.getLsbD bit := by
  have hbits : ∀ bit < 16, ((c ^^^ a.start) &&& ~~~a.mask).getLsbD bit =
      ((c.getLsbD bit ^^ a.start.getLsbD bit) && !a.mask.getLsbD bit) := fun bit hbit => by
    rw [BitVec.getLsbD_and, BitVec.getLsbD_xor, BitVec.getLsbD_not, decide_eq_true hbit, Bool.true_and]
  rw [FontArea.matches, Bool.and_eq_true, beq_iff_eq]
  refine and_congr_right fun _ => ⟨fun h bit hbit hclear => ?_, fun h => BitVec.eq_of_getLsbD_eq fun bit hbit => ?_⟩
  · have hzero := (hbits bit hbit).symm.trans ((congrArg (BitVec.getLsbD · bit) h).trans BitVec.getLsbD_zero)
    simpa [hclear] using hzero
  · refine (hbits bit hbit).trans (Eq.trans ?_ BitVec.getLsbD_zero.symm)
    cases hmask : a.mask.getLsbD bit with
    | true => exact Bool.and_false _
    | false => rw [h bit hbit hmask, Bool.xor_self, Bool.false_and]

/-- The lowest of the areas that match gives the glyph (R146). -/
theorem glyphOf_of_area {s : State} {c : Code} (hc : c ≠ 0) {a : Nat} (ha : a < 4)
    (hmatch : (s.area a).matches c = true) (hlowest : ∀ b < a, ¬ (s.area b).matches c = true) :
    s.glyphOf c = bankGlyph (s.area a).bank ((s.area a).base + (c &&& (s.area a).mask).toNat) := by
  have hfind : (List.range 4).find? ((fun x => x.matches c) ∘ s.area) = some a :=
    List.find?_range_eq_some.mpr ⟨hmatch, List.mem_range.mpr ha, fun b hb => by simpa using hlowest b hb⟩
  rw [State.glyphOf, if_neg hc, List.find?_map, hfind]
  rfl

theorem glyphOf_of_no_area {s : State} {c : Code} (hc : c ≠ 0) (hnone : ∀ a < 4, ¬ (s.area a).matches c = true) :
    s.glyphOf c = if c.toNat ≤ 0xFF then .rom c.toNat else replacement := by
  have hfind : ((List.range 4).map s.area).find? (fun x => x.matches c) = none := by
    simpa [List.find?_eq_none] using hnone
  rw [State.glyphOf, if_neg hc, hfind]

theorem bankGlyph_eq (b i : Nat) :
    bankGlyph b i = if 255 < i then .rom 0x7F else if b ≠ 0 then .ram b i else if i = 0 then .blank else .rom i := by
  rw [bankGlyph, ite_not]
  rfl

/-- Settles O8: the three requests from their actions, the glyph of a code by the area that gives it. -/
theorem screenStyleFontAreaWrite : Obligations.ScreenStyleFontAreaWrite := by
  refine ⟨fun s tag o => ⟨screen_request s tag o, fun _ => wrongLength_of_withOps rfl rfl⟩,
    fun s tag o => ⟨style_request s tag o, fun _ => wrongLength_of_withOps rfl rfl⟩,
    fun s tag o => ⟨fontarea_request s tag o, fun _ => wrongLength_of_withOps rfl rfl⟩, fun s c => ?_,
    fun s f y x => ⟨rfl, fun _ _ => rfl, fun g => by rw [← Bool.beq_eq_decide_eq]; rfl⟩⟩
  simp only [← fontArea_matches_iff, ← bankGlyph_eq]
  exact ⟨fun hc => if_pos hc, fun a ha hc hmatch hlowest => glyphOf_of_area hc ha hmatch hlowest,
    fun hc hnone => glyphOf_of_no_area hc hnone⟩

/-! ## PALETTE -/

theorem paletteAction_badValue {o : PaletteOps} (s : State)
    (h : ¬ (o.start.toNat ≤ 63 ∧ 1 ≤ o.entries.length ∧ o.entries.length ≤ 64)) :
    paletteAction o s = refuse .badValue s := by
  unfold paletteAction
  split
  · rfl
  · next hstart =>
    have hindex := (paletteIndex?_eq_some.mp hstart).1
    exact if_pos (by omega)

theorem paletteAction_eq {o : PaletteOps} (s : State)
    (h : o.start.toNat ≤ 63 ∧ 1 ≤ o.entries.length ∧ o.entries.length ≤ 64) :
    paletteAction o s =
      if 64 < o.start.toNat + o.entries.length then refuse .range s
      else accept .empty (s.setGcu { s.gcu with
        palette := Table.writeRun black s.gcu.palette o.start.toNat o.entries }) := by
  obtain ⟨hstart, hone, hmax⟩ := h
  unfold paletteAction
  rw [paletteIndex?_of_le hstart]
  exact if_neg (by omega)

theorem palette_request (s : State) (tag : Byte) (o : PaletteOps) :
    Request (.palette tag (.ops o)) s (paletteChecks o) (fun f t =>
      Answered s t f .empty ∧ t = { s with fli := t.fli, gcu := { s.gcu with palette := t.gcu.palette } } ∧
      ∀ i, t.colour i =
        if o.start.toNat ≤ i ∧ i < o.start.toNat + o.entries.length then o.entries.getD (i - o.start.toNat) black
        else s.colour i) := by
  refine request_of_answers (act := paletteAction o) rfl rfl ?_
  unfold paletteChecks
  refine .check (fun hbad => paletteAction_badValue _ (of_decide_eq_false hbad)) fun hok => ?_
  have heq := paletteAction_eq s.dropHead (of_decide_eq_true hok)
  refine .check (fun hbig => heq.trans (if_pos (Nat.not_le.mp (of_decide_eq_false hbig)))) fun hfits => ?_
  exact .accepted _ _ (heq.trans (if_neg (Nat.not_lt.mpr (of_decide_eq_true hfits))))
    ⟨answered_accept rfl _ _, rfl, fun i => Table.get_writeRun ..⟩

/-! ## GLYPHS -/

theorem glyphsAction_badValue {o : GlyphsOps} (s : State)
    (h : ¬ (1 ≤ o.bank.toNat ∧ o.bank.toNat ≤ 3 ∧ 1 ≤ o.glyphs.length ∧ o.glyphs.length ≤ 16)) :
    glyphsAction o s = refuse .badValue s := by
  unfold glyphsAction
  split
  · rfl
  · next hbank =>
    obtain ⟨⟨hone, hmax⟩, -⟩ := between?_eq_some.mp hbank
    exact if_pos (by omega)

/-- The state after a GLYPHS that is accepted (R144). -/
def glyphsLoaded (s : State) (o : GlyphsOps) : State :=
  s.setGcu { s.gcu with
    glyphs := Table.writeRun 0 s.gcu.glyphs (glyphKey o.bank.toNat o.first.toNat 0) (o.glyphs.flatten.map storedRow) }

theorem glyphsAction_eq {o : GlyphsOps} (s : State)
    (h : 1 ≤ o.bank.toNat ∧ o.bank.toNat ≤ 3 ∧ 1 ≤ o.glyphs.length ∧ o.glyphs.length ≤ 16) :
    glyphsAction o s =
      if 256 < o.first.toNat + o.glyphs.length then refuse .range s
      else if s.dtg.power = .asleep then refuse .asleep s
      else accept .empty (glyphsLoaded s o) := by
  obtain ⟨hbank, hbank3, hone, hmax⟩ := h
  unfold glyphsAction
  rw [between?_of_le ⟨hbank, hbank3⟩]
  exact if_neg (by omega)

/-- A row of a glyph is found among the rows of all glyphs by its number. -/
theorem getD_flatten_rows {α : Type} {n : Nat} {d : α} {gs : List (List α)} (hrows : ∀ g ∈ gs, g.length = n) {i y : Nat}
    (hy : y < n) : gs.flatten.getD (n * i + y) d = (gs.getD i []).getD y d := by
  induction gs generalizing i with
  | nil => simp
  | cons g gs ih =>
    obtain ⟨hg, hgs⟩ := List.forall_mem_cons.mp hrows
    rw [List.flatten_cons]
    cases i with
    | zero => rw [List.getD_append _ _ _ _ (by omega), List.getD_cons_zero, Nat.mul_zero, Nat.zero_add]
    | succ i =>
      have hnext : n * (i + 1) + y - g.length = n * i + y := by rw [hg, Nat.mul_succ]; omega
      rw [List.getD_append_right _ _ _ _ (by rw [hg, Nat.mul_succ]; omega), hnext, ih hgs, List.getD_cons_succ]

/-- The number of a row lies in the run of a load exactly when its glyph is one of those loaded (R142). -/
theorem glyphKey_mem_run {b first n bank g y : Nat} (hfits : first + n ≤ 256) (hg : g ≤ 255) (hy : y < 20) :
    (glyphKey b first 0 ≤ glyphKey bank g y ∧ glyphKey bank g y < glyphKey b first 0 + 20 * n) ↔
      bank = b ∧ first ≤ g ∧ g < first + n := by
  unfold glyphKey
  omega

theorem length_flatten_rows {gs : List (List U16)} (hrows : ∀ g ∈ gs, g.length = 20) :
    gs.flatten.length = 20 * gs.length :=
  flatten_length_of_all (List.all_eq_true.mpr fun g hg => beq_iff_eq.mpr (hrows g hg))

/-- The rows of the glyphs loaded are those given, every other row is as it was (R144). -/
theorem glyphRow_glyphsLoaded {s : State} {o : GlyphsOps} (hrows : ∀ g ∈ o.glyphs, g.length = 20)
    (hfits : o.first.toNat + o.glyphs.length ≤ 256) {bank g y : Nat} (hg : g ≤ 255) (hy : y < 20) :
    (glyphsLoaded s o).glyphRow bank g y =
      if bank = o.bank.toNat ∧ o.first.toNat ≤ g ∧ g < o.first.toNat + o.glyphs.length then
        storedRow ((o.glyphs.getD (g - o.first.toNat) []).getD y 0)
      else s.glyphRow bank g y := by
  refine (Table.get_writeRun ..).trans ?_
  rw [List.length_map, length_flatten_rows hrows]
  refine ite_congr (propext (glyphKey_mem_run hfits hg hy)) (fun hin => ?_) fun _ => rfl
  obtain ⟨rfl, hfirst, -⟩ := hin
  have hkey : glyphKey o.bank.toNat g y - glyphKey o.bank.toNat o.first.toNat 0 = 20 * (g - o.first.toNat) + y := by
    unfold glyphKey
    omega
  rw [hkey, show (0 : GlyphRow) = storedRow 0 from rfl, List.getD_map, getD_flatten_rows hrows hy]

/-- Pixel column `x` of a stored row is bit 15 − x of its byte form (R144, R184). -/
theorem getLsbD_storedRow (w : U16) {x : Nat} (hx : x < 12) : (storedRow w).getLsbD (11 - x) = w.getLsbD (15 - x) := by
  have hbit : 4 + (11 - x) = 15 - x := by omega
  rw [storedRow, BitVec.getLsbD_extractLsb', hbit, decide_eq_true (by omega : 11 - x < 12), Bool.true_and]

theorem glyphs_request (s : State) (tag : Byte) (o : GlyphsOps) (hrows : ∀ g ∈ o.glyphs, g.length = 20) :
    Request (.glyphs tag (.ops o)) s (glyphsChecks o s) (fun f t =>
      Answered s t f .empty ∧ t = { s with fli := t.fli, gcu := { s.gcu with glyphs := t.gcu.glyphs } } ∧
      ∀ bank g y x, g ≤ 255 → y < 20 → x < 12 →
        (t.glyphRow bank g y).getLsbD (11 - x) =
          if bank = o.bank.toNat ∧ o.first.toNat ≤ g ∧ g < o.first.toNat + o.glyphs.length then
            ((o.glyphs.getD (g - o.first.toNat) []).getD y 0).getLsbD (15 - x)
          else (s.glyphRow bank g y).getLsbD (11 - x)) := by
  refine request_of_answers (act := glyphsAction o) rfl rfl ?_
  unfold glyphsChecks
  refine .check (fun hbad => glyphsAction_badValue _ (of_decide_eq_false hbad)) fun hok => ?_
  have heq := glyphsAction_eq s.dropHead (of_decide_eq_true hok)
  refine .check (fun hbig => heq.trans (if_pos (Nat.not_le.mp (of_decide_eq_false hbig)))) fun hfits => ?_
  have hfits' := of_decide_eq_true hfits
  rw [if_neg (Nat.not_lt.mpr hfits')] at heq
  have hpower : (s.dtg.power == .awake) = true ↔ ¬ s.dropHead.dtg.power = .asleep := by
    change (s.dtg.power == .awake) = true ↔ ¬ s.dtg.power = .asleep
    cases s.dtg.power <;> decide
  refine .check (fun hasleep => heq.trans (if_pos ?_)) fun hawake => ?_
  · exact not_not.mp (mt hpower.mpr (Bool.not_eq_true _ ▸ hasleep))
  refine .accepted _ _ (heq.trans (if_neg (hpower.mp hawake)))
    ⟨answered_accept rfl _ _, rfl, fun bank g y x hg hy hx => ?_⟩
  have hrow := glyphRow_glyphsLoaded (s := s.dropHead) (bank := bank) hrows hfits' hg hy
  refine (congrArg (BitVec.getLsbD · (11 - x)) hrow).trans ?_
  simp only [apply_ite (BitVec.getLsbD · (11 - x)), getLsbD_storedRow _ hx]
  rfl

/-- Settles O9: the two loads from their actions, check by check. -/
theorem paletteAndGlyphsLoad : Obligations.PaletteAndGlyphsLoad :=
  ⟨fun s tag o => ⟨palette_request s tag o, fun _ => wrongLength_of_withOps rfl rfl⟩,
    fun s tag o hrows => ⟨glyphs_request s tag o hrows, fun _ => wrongLength_of_withOps rfl rfl⟩⟩

end Sys2Proof.Claims
end

-- ==== Proofs: ratios and blends ====
section
/-!
O50. The ratio of a moving flash is a quotient rounded up, a blended channel one rounded to the nearest.
-/

namespace Sys2Proof.Claims

open Sys2Proof.Machine

/-- The ratio is 31 × remaining / F rounded up (R152). -/
theorem flashRatio_ceil {len : Nat} (hlen : 0 < len) (rem : Nat) :
    31 * rem ≤ flashRatio len rem * len ∧ flashRatio len rem * len < 31 * rem + len := by
  have hfloor : (31 * rem + len - 1) / len * len ≤ 31 * rem + len - 1 := Nat.div_mul_le_self _ _
  have hnext : 31 * rem + len - 1 < (31 * rem + len - 1) / len * len + len := Nat.lt_div_mul_add hlen
  unfold flashRatio
  omega

theorem flashRatio_bounds {len rem : Nat} (hrem : 1 ≤ rem) (hle : rem ≤ len) :
    1 ≤ flashRatio len rem ∧ flashRatio len rem ≤ 31 := by
  obtain ⟨hceil, hlt⟩ := flashRatio_ceil (by omega : 0 < len) rem
  constructor
  · exact Nat.pos_of_mul_pos_right (by omega : 0 < flashRatio len rem * len)
  · refine Nat.le_of_lt_succ (Nat.lt_of_mul_lt_mul_right (a := len) ?_)
    omega

/-- A blended channel is the weighted mean rounded to the nearest integer (R152). -/
theorem blend_nearest (r bg c : Nat) :
    32 * blend r bg c ≤ bg * (32 - r) + c * r + 16 ∧ bg * (32 - r) + c * r < 32 * blend r bg c + 16 := by
  unfold blend
  omega

/-- A weighted mean of two channels, with weights that make 32, lies between them. -/
theorem weighted_between {r : Nat} (hr : r ≤ 32) (bg c : Nat) :
    32 * min bg c ≤ bg * (32 - r) + c * r ∧ bg * (32 - r) + c * r ≤ 32 * max bg c := by
  have hsum : ∀ m, m * (32 - r) + m * r = 32 * m := fun m => by rw [← Nat.mul_add, Nat.sub_add_cancel hr, Nat.mul_comm]
  rw [← hsum, ← hsum]
  exact ⟨Nat.add_le_add (Nat.mul_le_mul_right _ (min_le_left ..)) (Nat.mul_le_mul_right _ (min_le_right ..)),
    Nat.add_le_add (Nat.mul_le_mul_right _ (le_max_left ..)) (Nat.mul_le_mul_right _ (le_max_right ..))⟩

theorem blend_between {r : Nat} (hr : r ≤ 32) (bg c : Nat) : min bg c ≤ blend r bg c ∧ blend r bg c ≤ max bg c := by
  obtain ⟨hlow, hhigh⟩ := weighted_between hr bg c
  obtain ⟨hle, hlt⟩ := blend_nearest r bg c
  exact ⟨by omega, by omega⟩

/-- Settles O50: the ratio from its rounding up, the blend from its weighted mean and the nearest rounding. -/
theorem blendStaysBetween : Obligations.BlendStaysBetween := by
  intro len rem hrem hle _
  obtain ⟨hone, hmax⟩ := flashRatio_bounds hrem hle
  obtain ⟨hceil, hlt⟩ := flashRatio_ceil (by omega : 0 < len) rem
  refine ⟨hone, hmax, hceil, hlt, fun bg c => ?_⟩
  obtain ⟨hlow, hhigh⟩ := blend_between (by omega : flashRatio len rem ≤ 32) bg c
  exact ⟨hlow, hhigh, blend_nearest _ bg c⟩

end Sys2Proof.Claims
end

-- ==== Proofs: FORMAT, MODE and the events of the display timing ====
section
/-!
O7, O31, O32. FORMAT and MODE from their actions; the frame start's frame from those of its parts; the sleep entry and
the events out of place from the two points where the generator lets an event come.
-/

namespace Sys2Proof.Claims

open Sys2Proof.Machine

/-! ## The frame start -/

theorem rdyStart_frameStart_eq (r : RdyStart) :
    r.frameStart = if r = .waitFrame then .timing else r := by
  cases r <;> rfl

/-- What a frame start leaves as it was: an unheld one changes by its decay and its ageing, a held one by its notice,
and in both the compositor acts (R161). -/
theorem frameStart_frame (s : State) :
    s.frameStart = { s with
      choices := s.frameStart.choices
      fli := { s.fli with
        outQ := s.frameStart.fli.outQ
        nlost := s.frameStart.fli.nlost
        rdyStart := s.fli.rdyStart.frameStart }
      cst := { s.cst with cells := s.frameStart.cst.cells }
      itb := { s.itb with slots := s.frameStart.itb.slots }
      upq := s.frameStart.upq, cme := s.frameStart.cme, fau := s.frameStart.fau, sco := s.frameStart.sco
      dtg := s.dtg.frameStart } := by
  cases hheld : s.held with
  | false =>
    obtain ⟨c, hstart⟩ := s.frameStart_eq
    rw [hheld] at hstart
    have hage : SameButRepaint _ (s.acted false) :=
      State.ageSlots_frame (s.begun false).decay (s.begun false).dtg.counter
    rw [hstart, hage, State.decay_frame (s.begun false)]
    rfl
  | true =>
    obtain ⟨c, ov, -, hstart⟩ := frameStart_of_held hheld
    have hnotice : SameButNotices (s.begun true) ((s.begun true).frameNotice ov true) := State.frameNotice_frame ..
    rw [hstart, hnotice]
    rfl

/-- Settles O31: the generator acts as R161 says, and every other part is in the frame start's frame. -/
theorem frameStartApplies : Obligations.FrameStartApplies := by
  intro s hend hawake
  refine ⟨s.frameStart, exec_frameStart hend hawake, ?_⟩
  rw [← rdyStart_frameStart_eq]
  exact frameStart_frame s

/-! ## FORMAT -/

/-- A choice whose values carry the numbers 0 to `n` has a value for each byte up to `n` (R184). -/
theorem exists_byte_eq {α : Type} {byte : α → Byte} {n : Nat} (vs : List α)
    (hall : ∀ m ≤ n, ∃ v ∈ vs, (byte v).toNat = m) {b : Byte} (hb : b.toNat ≤ n) : ∃ v, byte v = b := by
  obtain ⟨v, -, hv⟩ := hall b.toNat hb
  exact ⟨v, BitVec.toNat_inj.mp hv⟩

theorem format?_byte (f : Format) : Format.ofByte? f.byte = some f := by
  cases f <;> rfl

theorem format?_le {b : Byte} {f : Format} (h : Format.ofByte? b = some f) : b.toNat ≤ 3 := by
  unfold Format.ofByte? at h
  split at h
  · omega
  · omega
  · omega
  · omega
  · exact nomatch h

theorem formatAction_badValue {o : FormatOps} (s : State) (h : ¬ o.format.toNat ≤ 3) :
    formatAction o s = refuse .badValue s := by
  have hnone : Format.ofByte? o.format = none := Option.eq_none_iff_forall_ne_some.mpr fun _ hf => h (format?_le hf)
  rw [formatAction, hnone]

theorem formatAction_eq {o : FormatOps} {f : Format} (s : State) (h : f.byte = o.format) :
    formatAction o s = accept .empty (s.setDtg { s.dtg with stagedFormat := f }) := by
  rw [formatAction, ← h, format?_byte]

theorem format_request (s : State) (tag : Byte) (o : FormatOps) :
    Request (.format tag (.ops o)) s [(decide (o.format.toNat ≤ 3), .badValue)] (fun f t =>
      Answered s t f .empty ∧
      ∃ fmt : Format, fmt.byte = o.format ∧
        t = { s with fli := t.fli, dtg := { s.dtg with stagedFormat := fmt } }) := by
  refine request_of_answers (act := formatAction o) rfl rfl (.check (fun hbad => ?_) fun hok => ?_)
  · exact formatAction_badValue _ (of_decide_eq_false hbad)
  · obtain ⟨fmt, hfmt⟩ := exists_byte_eq (byte := Format.byte) [.f0, .f1, .f2, .f3] (by decide) (of_decide_eq_true hok)
    exact .accepted _ _ (formatAction_eq s.dropHead hfmt) ⟨answered_accept rfl _ _, fmt, hfmt, rfl⟩

/-! ## MODE -/

theorem colourMode?_byte (c : ColourMode) : ColourMode.ofByte? c.byte = some c := by
  cases c <;> rfl

theorem colourMode?_le {b : Byte} {c : ColourMode} (h : ColourMode.ofByte? b = some c) : b.toNat ≤ 1 :=
  (choice_eq_some.mp h).1

theorem power?_byte (p : Power) : Power.ofByte? p.byte = some p := by
  cases p <;> rfl

theorem power?_le {b : Byte} {p : Power} (h : Power.ofByte? b = some p) : b.toNat ≤ 1 :=
  (choice_eq_some.mp h).1

/-- The rows of a MODE request: for a band within the screen and the right way up (R164). -/
abbrev bandOk (o : ModeOps) : Prop :=
  o.area = 0 ∨ (o.first.toNat ≤ 63 ∧ o.last.toNat ≤ 63 ∧ o.first.toNat ≤ o.last.toNat)

/-- The area that a MODE request in range gives (R164). -/
def areaOf (o : ModeOps) : Area := if o.area = 0 then .full else .band o.first.toNat o.last.toNat

theorem area?_eq_some {o : ModeOps} {a : Area} :
    Area.ofBytes? o.area o.first o.last = some a ↔ (o.area.toNat ≤ 1 ∧ bandOk o) ∧ a = areaOf o := by
  unfold Area.ofBytes? bandOk areaOf
  split
  · next hb => rw [(byte_eq_iff o.area 0 (by omega)).mpr hb]; simp [eq_comm]
  · next hb =>
    have hrows : (o.first.toNat ≤ 63 ∧ o.last.toNat ≤ 63 ∧ o.first.toNat ≤ o.last.toNat) ↔
        o.last.toNat ≤ 63 ∧ o.first.toNat ≤ o.last.toNat := by omega
    rw [(byte_eq_iff o.area 1 (by omega)).mpr hb, hrows]
    simp [eq_comm]
  · next h0 h1 =>
    have hgt : ¬ o.area.toNat ≤ 1 := fun hle => (Nat.le_one_iff_eq_zero_or_eq_one.mp hle).elim h0 h1
    simp [hgt]

theorem modeAction_badValue {o : ModeOps} (s : State)
    (h : ¬ ((o.area.toNat ≤ 1 ∧ o.colour.toNat ≤ 1 ∧ o.power.toNat ≤ 1) ∧ bandOk o)) :
    modeAction o s = refuse .badValue s := by
  unfold modeAction
  split
  · next ha hc hp =>
    obtain ⟨⟨harea, hband⟩, -⟩ := area?_eq_some.mp ha
    exact absurd ⟨⟨harea, colourMode?_le hc, power?_le hp⟩, hband⟩ h
  · rfl

/-- The staged values of the three settings, and the wake of a sleeper, the four parts written out (R164, R168). -/
theorem setModes_eq (d : Dtg) (a : Area) (c : ColourMode) (p : Power) :
    d.setModes a c p = { d with
      stagedArea := a
      stagedColour := c
      stagedPower := p
      power := if p = .awake then .awake else d.power
      restart := if d.power = .asleep ∧ p = .awake then true else d.restart } := by
  unfold Dtg.setModes
  cases d.power <;> cases p <;> rfl

theorem modeAction_eq {o : ModeOps} {c : ColourMode} {p : Power} (s : State) (harea : o.area.toNat ≤ 1)
    (hband : bandOk o) (hc : c.byte = o.colour) (hp : p.byte = o.power) :
    modeAction o s = accept (.power (s.dtg.setModes (areaOf o) c p).power)
      (s.setDtg (s.dtg.setModes (areaOf o) c p)) := by
  unfold modeAction
  rw [area?_eq_some.mpr ⟨⟨harea, hband⟩, rfl⟩, ← hc, ← hp, colourMode?_byte, power?_byte]
  rfl

theorem mode_request (s : State) (tag : Byte) (o : ModeOps) :
    Request (.mode tag (.ops o)) s (modeChecks o) (fun f t =>
      Answered s t f (.power t.dtg.power) ∧
      ∃ (c : ColourMode) (p : Power), c.byte = o.colour ∧ p.byte = o.power ∧
        t = { s with fli := t.fli, dtg := s.dtg.setModes (areaOf o) c p }) := by
  refine request_of_answers (act := modeAction o) rfl rfl ?_
  unfold modeChecks
  refine .check (fun hbad => modeAction_badValue _ fun hok => of_decide_eq_false hbad hok.1) fun hchoices => ?_
  refine .check (fun hbad => modeAction_badValue _ fun hok => of_decide_eq_false hbad hok.2) fun hband => ?_
  obtain ⟨harea, hcolour, hpower⟩ := of_decide_eq_true hchoices
  obtain ⟨c, hc⟩ := exists_byte_eq (byte := ColourMode.byte) [.full, .reduced] (by decide) hcolour
  obtain ⟨p, hp⟩ := exists_byte_eq (byte := Power.byte) [.awake, .asleep] (by decide) hpower
  exact .accepted _ _ (modeAction_eq s.dropHead harea (of_decide_eq_true hband) hc hp)
    ⟨answered_accept rfl _ _, c, p, hc, hp, rfl⟩

/-- Settles O7: the two requests from their actions, MODE's effect by its parts. -/
theorem formatAndModeStage : Obligations.FormatAndModeStage := by
  refine ⟨fun s tag o => ⟨format_request s tag o, fun _ => wrongLength_of_withOps rfl rfl⟩,
    fun s tag o => ⟨?_, fun _ => wrongLength_of_withOps rfl rfl⟩⟩
  have hmode := mode_request s tag o
  simp only [setModes_eq] at hmode
  exact hmode

/-! ## Sleep entry and the events out of place -/

theorem atFrameEnd_of_atBoundary {s : State} (h : s.dtg.atBoundary = true) : atFrameEnd s := by
  simpa [Dtg.atBoundary, atFrameEnd] using h

theorem scanDue_iff {s : State} :
    s.dtg.scanDue = true ↔ s.dtg.power = .awake ∧ s.dtg.phase = .blank ∧ s.dtg.restart = false := by
  simp [Dtg.scanDue, and_assoc]

/-- SLEEP_ENTRY comes at the end of a frame with ASLEEP staged, and at no other point (R166, log 3). -/
theorem exec_sleepEntry {s : State} (h : atFrameEnd s) (ha : s.dtg.stagedPower = .asleep) :
    exec .sleepEntry s = .next s.sleepEntry :=
  if_pos (c := s.dtg.atBoundary = true ∧ s.dtg.stagedPower = .asleep) ⟨atBoundary_of_atFrameEnd h, ha⟩

theorem exec_sleepEntry_out {s : State} (h : ¬ (atFrameEnd s ∧ s.dtg.stagedPower = .asleep)) :
    exec .sleepEntry s = .next s :=
  if_neg (c := s.dtg.atBoundary = true ∧ s.dtg.stagedPower = .asleep) (mt (And.imp_left atFrameEnd_of_atBoundary) h)

/-- With ASLEEP staged no frame start is produced: sleep is entered instead (R166). -/
theorem exec_frameStart_sleeps {s : State} (h : atFrameEnd s) (ha : s.dtg.stagedPower = .asleep) :
    exec .frameStart s = .next s.sleepEntry := by
  change execFrameStart s = _
  rw [execFrameStart, if_pos (atBoundary_of_atFrameEnd h), ha]

theorem exec_frameStart_out {s : State} (h : ¬ atFrameEnd s) : exec .frameStart s = .next s :=
  if_neg (c := s.dtg.atBoundary = true) (mt atFrameEnd_of_atBoundary h)

theorem exec_scanStart_out {s : State}
    (h : ¬ (s.dtg.power = .awake ∧ s.dtg.phase = .blank ∧ s.dtg.restart = false)) :
    exec .scanStart s = .next s :=
  if_neg (c := s.dtg.scanDue = true) (mt scanDue_iff.mp h)

theorem exec_commitStep_idle {s : State} (h : s.cme.state = .idle) : exec .commitStep s = .next s := by
  change execCommitStep s = _
  rw [execCommitStep, h]

/-- Settles O32: sleep entry at the end of a frame, then each event where it does not come. -/
theorem sleepEntryAndEventsOutOfPlace : Obligations.SleepEntryAndEventsOutOfPlace := by
  refine ⟨fun s hend hasleep => ⟨exec_sleepEntry hend hasleep, ?_⟩,
    fun s => ⟨fun hout => ⟨?_, ?_⟩, fun hawake => ?_, ?_, ?_⟩⟩
  · exact (exec_frameStart_sleeps hend hasleep).trans (exec_sleepEntry hend hasleep).symm
  · exact exec_frameStart_out hout
  · exact exec_sleepEntry_out fun hin => hout hin.1
  · exact exec_sleepEntry_out fun hin => nomatch hawake.symm.trans hin.2
  · exact exec_scanStart_out
  · exact exec_commitStep_idle

end Sys2Proof.Claims
end

-- ==== Proofs: the words of the link ====
section
/-!
SUPPORT. A `u16` and a `value40` and their bytes are read back from one another (R184).
-/

namespace Sys2Proof

theorem word_extract (w : U16) : word (w.extractLsb' 8 8) (w.extractLsb' 0 8) = w := by
  unfold word
  rw [BitVec.extractLsb'_append_extractLsb'_eq_extractLsb' (by rfl)]
  exact BitVec.extractLsb'_eq_self

theorem u16Bytes_word (hi lo : Byte) : u16Bytes (word hi lo) = [hi, lo] :=
  congrArg₂ (fun x y => [x, y]) BitVec.extractLsb'_append_eq_left BitVec.extractLsb'_append_eq_right

theorem value40_extract (v : Value40) :
    value40 (v.extractLsb' 32 8) (v.extractLsb' 24 8) (v.extractLsb' 16 8) (v.extractLsb' 8 8) (v.extractLsb' 0 8) =
      v := by
  unfold value40
  iterate 4 rw [BitVec.extractLsb'_append_extractLsb'_eq_extractLsb' (by rfl)]
  exact BitVec.extractLsb'_eq_self

/-- A byte above the lowest one of a number is one of the number without its lowest byte. -/
theorem extractLsb'_append_byte {w : Nat} (x : BitVec w) (y : Byte) (k : Nat) :
    (x ++ y).extractLsb' (k + 8) 8 = x.extractLsb' k 8 := by
  rw [BitVec.extractLsb'_append_eq_of_le (by omega), Nat.add_sub_cancel]

theorem value40Bytes_value40 (a b c d e : Byte) : value40Bytes (value40 a b c d e) = [a, b, c, d, e] := by
  have low : ∀ {w : Nat} (x : BitVec w) (y : Byte), (x ++ y).extractLsb' 0 8 = y := fun _ _ =>
    BitVec.extractLsb'_append_eq_right
  have high : a.extractLsb' 0 8 = a := BitVec.extractLsb'_eq_self
  unfold value40 value40Bytes
  rw [extractLsb'_append_byte _ e 24, extractLsb'_append_byte _ d 16, extractLsb'_append_byte _ c 8,
    extractLsb'_append_byte _ b 0, high, extractLsb'_append_byte _ e 16, extractLsb'_append_byte _ d 8,
    extractLsb'_append_byte _ c 0, low, extractLsb'_append_byte _ e 8, extractLsb'_append_byte _ d 0, low,
    extractLsb'_append_byte _ e 0, low, low]

end Sys2Proof
end

-- ==== Proofs: the receiver ====
section
/-!
SUPPORT. What the receiver does with a byte and with bytes one after another: what a byte that goes on leaves, what a
discard keeps, that the search after a discard is the arrival of the kept bytes again, and what all of it leaves of the
link (R172 to R174).
-/

namespace Sys2Proof.Machine

/-! ## What bytes leave of the link -/

/-- What bytes on RXD can do to the link: they move the receiver, append frames to the input record queue up to its
eight, mark OVERRUN, and count errors up to the saturation (R172 to R174). -/
structure Fli.LeadsTo (f g : Fli) : Prop where
  frame : g = { f with
    rxState := g.rxState, kept := g.kept, gapTimer := g.gapTimer, inQ := g.inQ, overrun := g.overrun
    linkErrors := g.linkErrors }
  queue : ∃ new, g.inQ = f.inQ ++ new
  depth : f.inQ.length ≤ 8 → g.inQ.length ≤ 8
  errors : f.linkErrors ≤ 65535 → f.linkErrors ≤ g.linkErrors ∧ g.linkErrors ≤ 65535

theorem Fli.LeadsTo.refl (f : Fli) : f.LeadsTo f := ⟨rfl, ⟨[], (List.append_nil _).symm⟩, id, fun h => ⟨le_rfl, h⟩⟩

theorem Fli.LeadsTo.trans {f g h : Fli} (hfg : f.LeadsTo g) (hgh : g.LeadsTo h) : f.LeadsTo h := by
  obtain ⟨new, hnew⟩ := hfg.queue
  obtain ⟨more, hmore⟩ := hgh.queue
  refine ⟨?_, ⟨new ++ more, by rw [hmore, hnew, List.append_assoc]⟩, fun hd => hgh.depth (hfg.depth hd), fun he => ?_⟩
  · rw [hgh.frame, hfg.frame]
  · obtain ⟨h1, h2⟩ := hfg.errors he
    obtain ⟨h3, h4⟩ := hgh.errors h2
    exact ⟨h1.trans h3, h4⟩

/-- Writes of the receiver alone. -/
theorem Fli.leadsTo_receiver (f : Fli) (st : RxState) (kept : List Byte) (timer : Bool) :
    f.LeadsTo { f with rxState := st, kept := kept, gapTimer := timer } :=
  { Fli.LeadsTo.refl f with frame := rfl }

theorem Fli.leadsTo_hunting (f : Fli) : f.LeadsTo f.hunting := f.leadsTo_receiver ..

theorem Fli.leadsTo_keep (f : Fli) (b : Byte) (st : RxState) : f.LeadsTo (f.keep b st) := f.leadsTo_receiver ..

theorem Fli.leadsTo_countError (f : Fli) : f.LeadsTo f.countError :=
  { Fli.LeadsTo.refl f with
    frame := rfl
    errors := fun h => by
      change f.linkErrors ≤ min (f.linkErrors + 1) 65535 ∧ min (f.linkErrors + 1) 65535 ≤ 65535
      omega }

theorem Fli.leadsTo_arrive (f : Fli) (g : Frame) : f.LeadsTo (f.arrive g) := by
  refine { Fli.LeadsTo.refl f with frame := ?_, queue := ?_, depth := f.arrive_length g, errors := fun h => ?_ } <;>
    rw [Fli.arrive_eq] <;> split
  · rfl
  · rfl
  · exact ⟨[g], rfl⟩
  · exact ⟨[], (List.append_nil _).symm⟩
  · exact ⟨le_rfl, h⟩
  · exact ⟨le_rfl, h⟩

theorem Fli.leadsTo_goodFrame (f : Fli) (payload : List Byte) : f.LeadsTo (f.goodFrame payload) := by
  unfold Fli.goodFrame
  split
  · exact f.leadsTo_hunting.trans (Fli.leadsTo_arrive ..)
  · exact f.leadsTo_hunting

/-! ## A byte -/

/-- The receiver as a discard leaves it before the kept bytes are searched: in HUNT, the error counted (R173). -/
def Fli.discarded (f : Fli) : Fli := f.countError.hunting

theorem Fli.leadsTo_discarded (f : Fli) : f.LeadsTo f.discarded := f.leadsTo_countError.trans (Fli.leadsTo_hunting _)

theorem Fli.hunting_law (f : Fli) : f.hunting.receiverLaw := ⟨rfl, rfl⟩

theorem Fli.arrive_receiver (f : Fli) (g : Frame) :
    (f.arrive g).rxState = f.rxState ∧ (f.arrive g).kept = f.kept ∧ (f.arrive g).gapTimer = f.gapTimer := by
  rw [Fli.arrive_eq]
  split <;> exact ⟨rfl, rfl, rfl⟩

/-- A good frame leaves the receiver in HUNT with nothing kept. -/
theorem Fli.goodFrame_receiver (f : Fli) (payload : List Byte) :
    (f.goodFrame payload).rxState = .hunt ∧ (f.goodFrame payload).kept = [] ∧
      (f.goodFrame payload).gapTimer = false := by
  unfold Fli.goodFrame
  split
  · exact f.hunting.arrive_receiver _
  · exact ⟨rfl, rfl, rfl⟩

/-- A receiver that keeps the law of its state reads the state, the kept bytes and the timer only. -/
theorem Fli.receiverLaw_congr {f g : Fli} (h : f.receiverLaw) (hstate : g.rxState = f.rxState) (hkept : g.kept = f.kept)
    (htimer : g.gapTimer = f.gapTimer) : g.receiverLaw := by
  unfold Fli.receiverLaw at h ⊢
  rwa [hstate, hkept, htimer]

/-- The two length bytes stay the first of the kept bytes (R171). -/
theorem payloadLength_append {kept : List Byte} (h : 2 ≤ kept.length) (bs : List Byte) :
    payloadLength (kept ++ bs) = payloadLength kept := by
  match kept, h with
  | _ :: _ :: _, _ => rfl

/-- A byte that goes on leaves the receiver in order (R172). -/
theorem Fli.receive_law {f g : Fli} {b : Byte} (h : f.receiverLaw) (hg : f.receive b = .goesOn g) : g.receiverLaw := by
  unfold Fli.receive at hg
  unfold Fli.receiverLaw at h
  cases hstate : f.rxState with
  | hunt =>
    simp only [hstate, Received.goesOn.injEq] at hg h
    subst hg
    split
    · exact ⟨rfl, rfl⟩
    · rw [Fli.receiverLaw, hstate]
      exact h
  | length1 =>
    simp only [hstate, Received.goesOn.injEq] at hg h
    subst hg
    change (f.kept ++ [b]).length = 1 ∧ true = true
    simp [h.1]
  | length2 =>
    simp only [hstate] at hg h
    split at hg
    · next hgood =>
      cases hg
      have hlen : (f.kept ++ [b]).length = 2 := by rw [List.length_append, h.1]; rfl
      have hpos : 2 ≤ payloadLength (f.kept ++ [b]) := of_decide_eq_true (Bool.and_eq_true_iff.mp hgood).1
      refine ⟨hgood, ?_, ?_, rfl⟩
      · exact hlen.ge
      · change (f.kept ++ [b]).length < 2 + payloadLength (f.kept ++ [b])
        omega
    · exact nomatch hg
  | payload =>
    simp only [hstate] at hg h
    obtain ⟨hgood, htwo, hless, -⟩ := h
    have hsame := payloadLength_append htwo [b]
    have hlen : (f.kept ++ [b]).length = f.kept.length + 1 := by simp
    change (if (f.kept ++ [b]).length = 2 + payloadLength (f.kept ++ [b]) then _ else _) = _ at hg
    split at hg
    · next hfull =>
      cases hg
      exact ⟨hsame ▸ hgood, hfull, rfl⟩
    · next hopen =>
      cases hg
      refine ⟨hsame ▸ hgood, ?_, ?_, rfl⟩
      · change 2 ≤ (f.kept ++ [b]).length
        omega
      · change (f.kept ++ [b]).length < 2 + payloadLength (f.kept ++ [b])
        omega
  | check =>
    simp only [hstate] at hg
    split at hg
    · cases hg
      obtain ⟨h1, h2, h3⟩ := f.goodFrame_receiver (f.kept.drop 2)
      exact Fli.receiverLaw_congr f.hunting_law h1 h2 h3
    · exact nomatch hg

/-- A byte that goes on leaves what bytes may, and the receiver with one byte more at most (R172). -/
theorem Fli.receive_goesOn {f g : Fli} {b : Byte} (hg : f.receive b = .goesOn g) : f.LeadsTo g := by
  unfold Fli.receive at hg
  cases hstate : f.rxState <;> simp only [hstate] at hg
  case hunt =>
    cases hg
    split
    · exact f.leadsTo_receiver ..
    · exact .refl f
  case length1 =>
    cases hg
    exact f.leadsTo_keep ..
  case length2 =>
    split at hg
    · cases hg
      exact f.leadsTo_keep ..
    · exact nomatch hg
  case payload =>
    split at hg
    · cases hg
      exact f.leadsTo_receiver ..
    · cases hg
      exact f.leadsTo_keep ..
  case check =>
    split at hg
    · cases hg
      exact f.leadsTo_goodFrame _
    · exact nomatch hg

/-- A discard comes outside HUNT only, with its byte among the kept ones (R173). -/
theorem Fli.receive_discard {f g : Fli} {b : Byte} (hg : f.receive b = .discard g) :
    f.rxState ≠ .hunt ∧ ∃ st, g = f.keep b st := by
  unfold Fli.receive at hg
  cases hstate : f.rxState <;> simp only [hstate] at hg
  case hunt => exact nomatch hg
  case length1 => exact nomatch hg
  case length2 =>
    split at hg
    · exact nomatch hg
    · exact ⟨nofun, .payload, (Received.discard.inj hg).symm⟩
  case payload => split at hg <;> exact nomatch hg
  case check =>
    split at hg
    · exact nomatch hg
    · exact ⟨nofun, .check, (Received.discard.inj hg).symm⟩

/-! ## The bytes of a frame in progress -/

/-- The bytes received for the frame in progress, its start byte among them. -/
def Fli.progress (f : Fli) : Nat := if f.rxState = .hunt then 0 else f.kept.length + 1

theorem Fli.progress_receive {f g : Fli} {b : Byte} (hg : f.receive b = .goesOn g) : g.progress ≤ f.progress + 1 := by
  unfold Fli.receive at hg
  unfold Fli.progress
  cases hstate : f.rxState <;> simp only [hstate] at hg
  case hunt =>
    cases hg
    split <;> simp
  case length1 =>
    cases hg
    simp [Fli.keep]
  case length2 =>
    split at hg
    · cases hg
      simp [Fli.keep]
    · exact nomatch hg
  case payload =>
    split at hg <;> cases hg <;> simp [Fli.keep]
  case check =>
    split at hg
    · cases hg
      simp [f.goodFrame_receiver]
    · exact nomatch hg

/-! ## The search -/

@[simp] theorem Fli.search_nil (fuel : Nat) (f : Fli) : Fli.search fuel f [] = f := by
  cases fuel <;> rfl

theorem Fli.search_goesOn {f g : Fli} {b : Byte} (h : f.receive b = .goesOn g) (fuel : Nat) (rest : List Byte) :
    Fli.search (fuel + 1) f (b :: rest) = Fli.search (fuel + 1) g rest := by
  simp [Fli.search, Fli.receiveAll, h]

theorem Fli.search_discard {f g : Fli} {b : Byte} (h : f.receive b = .discard g) (fuel : Nat) (rest : List Byte) :
    Fli.search (fuel + 1) f (b :: rest) = Fli.search fuel g.discarded (g.kept ++ rest) := by
  simp [Fli.search, Fli.receiveAll, h, Fli.discarded]

/-- A byte with a good stop bit that goes on. -/
theorem Fli.rxByte_goesOn {f g : Fli} {b : Byte} (h : f.receive b = .goesOn g) : f.rxByte b false = g := by
  change Fli.search (f.kept.length + 1 + 1) f [b] = g
  rw [Fli.search_goesOn h, Fli.search_nil]

/-- A byte with a good stop bit that makes a discard: the kept bytes are searched again. -/
theorem Fli.rxByte_discard {f g : Fli} {b : Byte} (h : f.receive b = .discard g) :
    f.rxByte b false = Fli.search (f.kept.length + 1) g.discarded g.kept := by
  change Fli.search (f.kept.length + 1 + 1) f [b] = _
  rw [Fli.search_discard h, List.append_nil]

/-- Bytes with good stop bits that arrive one after another. -/
def Fli.takes (f : Fli) (bytes : List Byte) : Fli := bytes.foldl (fun g b => g.rxByte b false) f

@[simp] theorem Fli.takes_nil (f : Fli) : f.takes [] = f := rfl

@[simp] theorem Fli.takes_cons (f : Fli) (b : Byte) (rest : List Byte) :
    f.takes (b :: rest) = (f.rxByte b false).takes rest := rfl

theorem Fli.takes_append (f : Fli) (bs rest : List Byte) : f.takes (bs ++ rest) = (f.takes bs).takes rest :=
  List.foldl_append ..

/-- The search with fuel for every discard is the arrival of its bytes one after another: each discard uses up the start
byte of the frame in progress (R173). -/
theorem Fli.search_eq_takes (fuel : Nat) (f : Fli) (bytes : List Byte) (h : f.progress + bytes.length ≤ fuel) :
    Fli.search fuel f bytes = f.takes bytes := by
  induction fuel using Nat.strong_induction_on generalizing f bytes with
  | _ fuel ih =>
    induction bytes generalizing f with
    | nil => exact Fli.search_nil ..
    | cons b rest ihrest =>
      rw [List.length_cons] at h
      obtain ⟨n, rfl⟩ : ∃ n, fuel = n + 1 := ⟨fuel - 1, by omega⟩
      cases hr : f.receive b with
      | goesOn g =>
        have hprog := Fli.progress_receive hr
        rw [Fli.search_goesOn hr, ihrest g (by omega), Fli.takes_cons, Fli.rxByte_goesOn hr]
      | discard g =>
        obtain ⟨hhunt, st, hg⟩ := Fli.receive_discard hr
        have hkept : g.kept.length = f.kept.length + 1 := by rw [hg]; simp [Fli.keep]
        have hprog : f.progress = f.kept.length + 1 := if_neg hhunt
        have hzero : g.discarded.progress = 0 := rfl
        rw [Fli.search_discard hr, ih n (by omega) _ _ (by rw [List.length_append]; omega), Fli.takes_cons,
          Fli.rxByte_discard hr, ih _ (by omega) _ _ (by omega), Fli.takes_append]

/-- A discard of the frame in progress is the arrival of its kept bytes at a receiver in HUNT (R173). -/
theorem Fli.discardFrame_eq (f : Fli) : f.discardFrame = f.discarded.takes f.kept :=
  Fli.search_eq_takes _ _ _ (by
    change 0 + f.kept.length ≤ _
    omega)

/-- A byte that makes a discard arrives again after the kept bytes (R173). -/
theorem Fli.rxByte_discard_eq {f : Fli} {b : Byte} {st : RxState} (h : f.receive b = .discard (f.keep b st)) :
    f.rxByte b false = f.discarded.takes (f.kept ++ [b]) := by
  rw [Fli.rxByte_discard h]
  exact Fli.search_eq_takes _ _ _ (by
    change 0 + (f.kept ++ [b]).length ≤ _
    simp)

/-! ## What the search keeps -/

/-- What a goes-on byte and a discard keep, the search keeps. -/
theorem Fli.search_keeps {P : Fli → Prop} (hbyte : ∀ f g b, P f → f.receive b = .goesOn g → P g)
    (hdiscard : ∀ f g b, P f → f.receive b = .discard g → P g.discarded) (fuel : Nat) (f : Fli) (bytes : List Byte)
    (h : P f) : P (Fli.search fuel f bytes) := by
  induction fuel generalizing f bytes with
  | zero => exact h
  | succ fuel ih =>
    induction bytes generalizing f with
    | nil => exact h
    | cons b rest ihrest =>
      cases hr : f.receive b with
      | goesOn g =>
        rw [Fli.search_goesOn hr]
        exact ihrest g (hbyte f g b h hr)
      | discard g =>
        rw [Fli.search_discard hr]
        exact ih _ _ (hdiscard f g b h hr)

theorem Fli.search_law (fuel : Nat) (f : Fli) (bytes : List Byte) (h : f.receiverLaw) :
    (Fli.search fuel f bytes).receiverLaw :=
  Fli.search_keeps (fun _ _ _ hf hg => Fli.receive_law hf hg) (fun _ g _ _ _ => g.countError.hunting_law) fuel f bytes h

theorem Fli.search_leadsTo (fuel : Nat) (f : Fli) (bytes : List Byte) : f.LeadsTo (Fli.search fuel f bytes) := by
  refine Fli.search_keeps (P := f.LeadsTo) (fun _ _ _ hf hg => hf.trans (Fli.receive_goesOn hg))
    (fun f' g b hf hg => ?_) fuel f bytes (.refl f)
  obtain ⟨-, st, rfl⟩ := Fli.receive_discard hg
  exact hf.trans ((f'.leadsTo_keep b st).trans (Fli.leadsTo_discarded _))

theorem Fli.discardFrame_law (f : Fli) : f.discardFrame.receiverLaw :=
  Fli.search_law _ _ _ f.countError.hunting_law

theorem Fli.discardFrame_leadsTo (f : Fli) : f.discarded.LeadsTo f.discardFrame := Fli.search_leadsTo ..

/-- A byte whose stop bit is low is dropped in HUNT, and makes a discard elsewhere (R172, R173). -/
theorem Fli.rxByte_stopLow (f : Fli) (b : Byte) :
    f.rxByte b true = if f.rxState = .hunt then f else f.discardFrame := by
  cases h : f.rxState <;> simp [Fli.rxByte, h]

theorem Fli.rxByte_law {f : Fli} (h : f.receiverLaw) (b : Byte) (stopLow : Bool) : (f.rxByte b stopLow).receiverLaw := by
  cases stopLow with
  | false => exact Fli.search_law _ _ _ h
  | true =>
    rw [Fli.rxByte_stopLow]
    split
    · exact h
    · exact f.discardFrame_law

theorem Fli.rxByte_leadsTo (f : Fli) (b : Byte) (stopLow : Bool) : f.LeadsTo (f.rxByte b stopLow) := by
  cases stopLow with
  | false => exact Fli.search_leadsTo ..
  | true =>
    rw [Fli.rxByte_stopLow]
    split
    · exact .refl f
    · exact f.leadsTo_discarded.trans f.discardFrame_leadsTo

end Sys2Proof.Machine
end

-- ==== Proofs: frames and the bytes on RXD ====
section
/-!
O5, O44, O45, O46. The frame of a payload, then the receiver: each byte in its state, a good frame byte by byte, and the
four discards.
-/

namespace Sys2Proof.Claims

open Sys2Proof.Machine

/-! ## The frame of a payload -/

theorem byteSum_append_single (bs : List Byte) (b : Byte) : byteSum (bs ++ [b]) = byteSum bs + b :=
  List.foldl_append ..

theorem payloadLength_u16 {n : Nat} (h : n ≤ 1024) (rest : List Byte) : payloadLength (u16 n ++ rest) = n := by
  change (word _ _).toNat = n
  rw [word_extract, BitVec.toNat_ofNat]
  omega

/-- Settles O5: the length is in the two bytes after the start byte, and the check byte takes the sum to 0. -/
theorem framesSumToZero : Obligations.FramesSumToZero := by
  intro p hp
  refine ⟨?_, rfl, ?_, ?_, ?_⟩
  · simp [frameBytes, u16, u16Bytes]
  · change payloadLength (u16 p.length ++ p ++ _) = _
    rw [List.append_assoc, payloadLength_u16 hp]
  · change (p ++ _).take p.length = p
    rw [List.take_left]
  · change byteSum (_ ++ [_]) = 0
    rw [byteSum_append_single]
    exact BitVec.add_right_neg _

/-! ## A byte in each state -/

theorem goodLength_iff {n : Nat} : goodLength n = true ↔ 2 ≤ n ∧ n ≤ 1024 := by
  simp [goodLength]

theorem exec_rxdByte_goesOn {s : State} {b : Byte} {g : Fli} (h : s.fli.receive b = .goesOn g) :
    exec (.rxdByte b false) s = .next { s with fli := g } :=
  congrArg (fun f => Host.Outcome.next (s.setFli f)) (Fli.rxByte_goesOn h)

theorem receive_hunt {f : Fli} (h : f.rxState = .hunt) (b : Byte) :
    f.receive b = .goesOn (if b = 0xA5 then { f with rxState := .length1, kept := [], gapTimer := true } else f) := by
  rw [Fli.receive, h]

theorem receive_length1 {f : Fli} (h : f.rxState = .length1) (b : Byte) :
    f.receive b = .goesOn (f.keep b .length2) := by
  rw [Fli.receive, h]

theorem receive_length2 {f : Fli} (h : f.rxState = .length2) {b : Byte}
    (hlen : 2 ≤ payloadLength (f.kept ++ [b]) ∧ payloadLength (f.kept ++ [b]) ≤ 1024) :
    f.receive b = .goesOn (f.keep b .payload) := by
  rw [Fli.receive, h]
  exact if_pos (goodLength_iff.mpr hlen)

theorem receive_length2_bad {f : Fli} (h : f.rxState = .length2) {b : Byte}
    (hlen : ¬ (2 ≤ payloadLength (f.kept ++ [b]) ∧ payloadLength (f.kept ++ [b]) ≤ 1024)) :
    f.receive b = .discard (f.keep b .payload) := by
  rw [Fli.receive, h]
  exact if_neg fun hgood => hlen (goodLength_iff.mp hgood)

theorem receive_payload {f : Fli} (h : f.rxState = .payload) (b : Byte) :
    f.receive b = .goesOn (f.keep b
      (if (f.kept ++ [b]).length = 2 + payloadLength (f.kept ++ [b]) then .check else .payload)) := by
  rw [Fli.receive, h]
  change (if (f.kept ++ [b]).length = 2 + payloadLength (f.kept ++ [b]) then _ else _) = _
  split <;> rfl

theorem receive_check {f : Fli} (h : f.rxState = .check) {b : Byte} (hsum : byteSum (f.kept ++ [b]) = 0) :
    f.receive b = .goesOn (f.goodFrame (f.kept.drop 2)) := by
  rw [Fli.receive, h]
  exact if_pos (byteSum_append_single f.kept b ▸ hsum)

theorem receive_check_bad {f : Fli} (h : f.rxState = .check) {b : Byte} (hsum : byteSum (f.kept ++ [b]) ≠ 0) :
    f.receive b = .discard (f.keep b .check) := by
  rw [Fli.receive, h]
  exact if_neg (byteSum_append_single f.kept b ▸ hsum)

/-- The frame handed on joins the queue, or with eight frames there marks OVERRUN (R174). -/
theorem goodFrame_eq (f : Fli) (kind tag : Byte) (body : List Byte) :
    f.goodFrame (kind :: tag :: body) = { f with
      rxState := .hunt, kept := [], gapTimer := false
      inQ := if f.inQ.length < 8 then f.inQ ++ [⟨kind, tag, body⟩] else f.inQ
      overrun := f.overrun || decide (8 ≤ f.inQ.length) } := by
  change f.hunting.arrive ⟨kind, tag, body⟩ = _
  rw [Fli.arrive_eq]
  by_cases hroom : f.inQ.length < 8
  · rw [if_pos hroom, if_pos (by exact hroom), decide_eq_false (by omega), Bool.or_false]
    rfl
  · rw [if_neg hroom, if_neg (by exact hroom), decide_eq_true (by omega), Bool.or_true]
    rfl

/-- Settles O44: the byte goes on in each state. -/
theorem receiverTakesByte : Obligations.ReceiverTakesByte := by
  refine fun s b => ⟨fun hs => ?_, fun hs => ?_, fun hs h2 h1024 => ?_, fun hs => ?_,
    fun hi lo kind tag body hs hk hsum => ?_⟩
  · exact exec_rxdByte_goesOn (receive_hunt hs b)
  · exact exec_rxdByte_goesOn (receive_length1 hs b)
  · exact exec_rxdByte_goesOn (receive_length2 hs ⟨h2, h1024⟩)
  · exact exec_rxdByte_goesOn (receive_payload hs b)
  · have hpay : s.fli.kept.drop 2 = kind :: tag :: body := congrArg (List.drop 2) hk
    rw [← goodFrame_eq, ← hpay]
    exact exec_rxdByte_goesOn (receive_check hs hsum)

/-! ## Bytes one after another -/

theorem receives_eq (bytes : List Byte) (s : State) :
    receives bytes s = some { s with fli := s.fli.takes bytes } := by
  induction bytes generalizing s with
  | nil => rfl
  | cons b rest ih => exact ih _

/-- The rest of a payload fills the frame in progress (R172). -/
theorem takes_payload {f : Fli} (hs : f.rxState = .payload) (rest : List Byte) (hne : rest ≠ [])
    (htwo : 2 ≤ f.kept.length)
    (hlen : f.kept.length + rest.length = 2 + payloadLength f.kept) :
    f.takes rest = { f with rxState := .check, kept := f.kept ++ rest, gapTimer := true } := by
  induction rest generalizing f with
  | nil => exact absurd rfl hne
  | cons b rest ih =>
    have hsame := payloadLength_append htwo [b]
    have hone : (f.kept ++ [b]).length = f.kept.length + 1 := by simp
    rw [List.length_cons] at hlen
    rw [Fli.takes_cons, Fli.rxByte_goesOn (receive_payload hs b), hsame]
    by_cases hlast : rest = []
    · subst hlast
      rw [List.length_nil] at hlen
      rw [if_pos (by omega)]
      rfl
    · have hpos : 0 < rest.length := List.length_pos_iff.mpr hlast
      rw [if_neg (by omega)]
      have hkept : (f.keep b .payload).kept = f.kept ++ [b] := rfl
      rw [ih rfl hlast (by rw [hkept]; omega) (by rw [hkept, hsame]; omega), hkept, List.append_assoc]
      rfl

/-- The frame of a payload of 2 to 1,024 bytes brings a receiver in HUNT to a good frame (R171, R172). -/
theorem takes_frameBytes {f : Fli} (hs : f.rxState = .hunt) {p : List Byte} (h2 : 2 ≤ p.length)
    (h1024 : p.length ≤ 1024) : f.takes (frameBytes p) = f.goodFrame p := by
  let started : Fli := { f with rxState := .length1, kept := [], gapTimer := true }
  let sized : Fli := { f with rxState := .payload, kept := u16 p.length, gapTimer := true }
  let filled : Fli := { f with rxState := .check, kept := u16 p.length ++ p, gapTimer := true }
  have hlength : ∀ rest, payloadLength (u16 p.length ++ rest) = p.length := payloadLength_u16 h1024
  have hlength0 : payloadLength (u16 p.length) = p.length := by simpa using hlength []
  have hstart : f.rxByte 0xA5 false = started := Fli.rxByte_goesOn (receive_hunt hs _)
  have hsize : started.takes (u16 p.length) = sized := by
    obtain ⟨hi, lo, hw⟩ : ∃ hi lo, u16 p.length = [hi, lo] := ⟨_, _, rfl⟩
    have hrange : 2 ≤ payloadLength [hi, lo] ∧ payloadLength [hi, lo] ≤ 1024 := by
      rw [← hw, hlength0]
      exact ⟨h2, h1024⟩
    change _ = { f with rxState := .payload, kept := u16 p.length, gapTimer := true }
    rw [hw, Fli.takes_cons, Fli.rxByte_goesOn (receive_length1 (f := started) rfl hi), Fli.takes_cons,
      Fli.rxByte_goesOn (receive_length2 (f := started.keep hi .length2) rfl hrange)]
    rfl
  have hfill : sized.takes p = filled :=
    takes_payload rfl p (List.length_pos_iff.mp (by omega)) le_rfl (by
      change 2 + p.length = 2 + payloadLength (u16 p.length)
      rw [hlength0])
  have hsum : byteSum (filled.kept ++ [-byteSum filled.kept]) = 0 := by
    rw [byteSum_append_single]
    exact BitVec.add_right_neg _
  change (f.rxByte 0xA5 false).takes (u16 p.length ++ p ++ [-byteSum filled.kept]) = _
  rw [hstart, Fli.takes_append, Fli.takes_append, hsize, hfill, Fli.takes_cons,
    Fli.rxByte_goesOn (receive_check (f := filled) rfl hsum)]
  rfl

/-- Settles O45: the frame brings the receiver to a good frame, which joins the queue. -/
theorem goodFrameArrives : Obligations.GoodFrameArrives := by
  intro s f hbody hlaw hs hroom
  have hrest : s.fli.kept = [] ∧ s.fli.gapTimer = false := by
    rwa [Fli.receiverLaw, hs] at hlaw
  rw [receives_eq, takes_frameBytes hs (by simp) (by simp; omega), goodFrame_eq, if_pos hroom,
    decide_eq_false (by omega), Bool.or_false, ← hs, ← hrest.1, ← hrest.2]

/-! ## Discards -/

theorem hunting_eq (s : State) : hunting s = { s with fli := s.fli.discarded } := rfl

theorem receives_hunting (bytes : List Byte) (s : State) :
    receives bytes (hunting s) = some { s with fli := s.fli.discarded.takes bytes } := receives_eq ..

/-- With no start byte among them, bytes leave a receiver in HUNT as it is. -/
theorem takes_of_no_start {f : Fli} (hs : f.rxState = .hunt) {bytes : List Byte} (h : ∀ b ∈ bytes, b ≠ 0xA5) :
    f.takes bytes = f := by
  induction bytes with
  | nil => rfl
  | cons b rest ih =>
    rw [Fli.takes_cons, Fli.rxByte_goesOn (receive_hunt hs b), if_neg (h b (by simp))]
    exact ih fun c hc => h c (by simp [hc])

theorem exec_gapTimerExpiry {s : State} (h : s.fli.gapTimer = true) :
    exec .gapTimerExpiry s = .next { s with fli := s.fli.discardFrame } :=
  if_pos (c := s.fli.gapTimer = true) h

/-- The expiry of the gap timer discards the frame in progress (R173). -/
theorem gapTimerExpiry_discards {s : State} (h : s.fli.gapTimer = true) :
    ∃ t, exec .gapTimerExpiry s = .next t ∧ receives s.fli.kept (hunting s) = some t ∧
      t = { s with
        fli := { s.fli with
          rxState := t.fli.rxState, kept := t.fli.kept, gapTimer := t.fli.gapTimer, inQ := t.fli.inQ
          overrun := t.fli.overrun, linkErrors := t.fli.linkErrors } } ∧
      min (s.fli.linkErrors + 1) 65535 ≤ t.fli.linkErrors ∧
      (∃ new, t.fli.inQ = s.fli.inQ ++ new) ∧
      ((∀ b ∈ s.fli.kept, b ≠ 0xA5) → t = hunting s) := by
  have hleads := s.fli.discardFrame_leadsTo
  refine ⟨_, exec_gapTimerExpiry h, ?_, ?_, (hleads.errors (Nat.min_le_right ..)).1, hleads.queue, fun hno => ?_⟩
  · rw [receives_hunting, Fli.discardFrame_eq]
  · exact congrArg s.setFli (s.fli.leadsTo_discarded.trans hleads).frame
  · rw [hunting_eq, Fli.discardFrame_eq, takes_of_no_start rfl hno]

/-- Settles O46: the four discards, each one the arrival of its kept bytes at the receiver in HUNT. -/
theorem discardCountsError : Obligations.DiscardCountsError := by
  refine fun s => ⟨gapTimerExpiry_discards, fun hstopped => ?_, fun b => ?_, fun b => ?_⟩
  · exact if_neg (c := s.fli.gapTimer = true) (by simp [hstopped])
  · change Host.Outcome.next (s.setFli (s.fli.rxByte b true)) = _
    rw [Fli.rxByte_stopLow]
    split
    · rfl
    · exact (exec_gapTimerExpiry (s := { s with fli := { s.fli with gapTimer := true } }) rfl).symm
  · intro kept hbad
    obtain ⟨st, hdiscard⟩ : ∃ st, s.fli.receive b = .discard (s.fli.keep b st) := by
      rcases hbad with ⟨hs, hlen⟩ | ⟨hs, hsum⟩
      · exact ⟨_, receive_length2_bad hs hlen⟩
      · exact ⟨_, receive_check_bad hs hsum⟩
    refine ⟨{ s with fli := s.fli.rxByte b false }, rfl, ?_⟩
    rw [receives_hunting, Fli.rxByte_discard_eq hdiscard]

end Sys2Proof.Claims
end

-- ==== Proofs: the laws of the link ====
section
/-!
SUPPORT and O55. The laws of the link as a form of the link and of whether a SAVE is in flight: the queue's operations
keep it, most commands leave both alone but for replies and notices, and the others change them within the form.
-/

namespace Sys2Proof.Machine

/-- The laws of the link with their parts named; `saving` says that a SAVE is in flight. -/
structure LinkForm (f : Fli) (saving : Bool) : Prop where
  inputs : f.inQ.length ≤ 8
  room : f.outQ.length + f.reserved ≤ 48
  replies : f.replies + f.reserved ≤ 8
  reserved : f.reserved = if saving then 1 else 0
  errors : f.linkErrors ≤ 65535
  lines : ∀ l < 4, (f.outQ.drop f.sentCount).countP (OutEntry.isLine l) ≤ 1
  sending : f.sending = none ∨ f.sending = f.outQ.head?.map fun e => frameBytes e.payload
  receiver : f.receiverLaw

/-- The form of a state's link. -/
def LinkSound (s : State) : Prop := LinkForm s.fli s.pst.programming.isSome

theorem linkSound_iff (s : State) : LinkSound s ↔ s.linkLaw ∧ s.fli.receiverLaw := by
  constructor
  · exact fun h => ⟨⟨h.inputs, h.room, h.replies, h.reserved, h.errors, h.lines, h.sending⟩, h.receiver⟩
  · rintro ⟨⟨h1, h2, h3, h4, h5, h6, h7⟩, h8⟩
    exact ⟨h1, h2, h3, h4, h5, h6, h7, h8⟩

/-! ## The output queue -/

namespace LinkForm

variable {f : Fli} {saving : Bool}

/-- The head entry's frame is being sent, or none is (R180). -/
theorem sent_cases (h : LinkForm f saving) :
    (f.sending = none ∧ f.sentCount = 0) ∨ ∃ e rest, f.outQ = e :: rest ∧ f.sentCount = 1 := by
  unfold Fli.sentCount
  cases hs : f.sending with
  | none => exact .inl ⟨rfl, rfl⟩
  | some bytes =>
    cases hq : f.outQ with
    | nil => simpa [hs, hq] using h.sending
    | cons e rest => exact .inr ⟨e, rest, rfl, rfl⟩

/-- An entry joins the queue where a place is free, for a reply one of the eight, and for a LINE notice only while none
of its line waits (R175, R178, R179). -/
theorem append (h : LinkForm f saving) {e : OutEntry} (hroom : f.outQ.length + f.reserved < 48)
    (hreply : e.isReply = true → f.replies + f.reserved < 8)
    (hline : ∀ l, e.isLine l = true → (f.outQ.drop f.sentCount).any (OutEntry.isLine l) = false) :
    LinkForm { f with outQ := f.outQ ++ [e] } saving := by
  have hlen : f.sentCount ≤ f.outQ.length := by
    rcases h.sent_cases with ⟨-, hc⟩ | ⟨_, _, hq, hc⟩ <;> simp [*]
  refine { h with room := ?_, replies := ?_, lines := fun l hl => ?_, sending := ?_ }
  · change (f.outQ ++ [e]).length + f.reserved ≤ 48
    rw [List.length_append, List.length_singleton]
    omega
  · have hcount : Fli.replies { f with outQ := f.outQ ++ [e] } = f.replies + [e].countP OutEntry.isReply :=
      List.countP_append ..
    have hold := h.replies
    change Fli.replies { f with outQ := f.outQ ++ [e] } + f.reserved ≤ 8
    rw [hcount, List.countP_singleton]
    split
    · next he =>
      have hfree := hreply he
      omega
    · omega
  · change ((f.outQ ++ [e]).drop f.sentCount).countP (OutEntry.isLine l) ≤ 1
    rw [List.drop_append_of_le_length hlen, List.countP_append, List.countP_singleton]
    split
    · next he =>
      have hnone : (f.outQ.drop f.sentCount).countP (OutEntry.isLine l) = 0 := by
        rw [List.countP_eq_zero]
        simpa using hline l he
      omega
    · exact h.lines l hl
  · rcases h.sent_cases with ⟨hs, -⟩ | ⟨x, rest, hq, -⟩
    · exact .inl hs
    · have hsend := h.sending
      rw [hq] at hsend ⊢
      exact hsend

/-- A notice is appended while a place is free, else NLOST is marked (R178). -/
theorem offer (h : LinkForm f saving) {e : OutEntry} (hreply : e.isReply = false)
    (hline : ∀ l, e.isLine l = true → (f.outQ.drop f.sentCount).any (OutEntry.isLine l) = false) :
    LinkForm (if f.outQ.length + f.reserved < 48 then { f with outQ := f.outQ ++ [e] } else { f with nlost := true })
      saving := by
  split
  · next hroom => exact h.append hroom (fun he => nomatch hreply.symm.trans he) hline
  · exact { h with }

/-- A merge leaves of each entry what it is, and of which line. -/
theorem isReply_mergeLine (l : Nat) (x : Line) (e : OutEntry) : (e.mergeLine l x).isReply = e.isReply := by
  cases e with
  | line n =>
    unfold OutEntry.mergeLine
    simp only
    split <;> rfl
  | _ => rfl

theorem isLine_mergeLine (l k : Nat) (x : Line) (e : OutEntry) : (e.mergeLine l x).isLine k = e.isLine k := by
  cases e with
  | line n =>
    unfold OutEntry.mergeLine
    simp only
    split
    · next hn => rw [← hn]; rfl
    · rfl
  | _ => rfl

/-- A waiting LINE notice takes an edge: no entry joins or leaves, and the one being sent stays (R179). -/
theorem merge (h : LinkForm f saving) (l : Nat) (x : Line) :
    LinkForm { f with
      outQ := f.outQ.take f.sentCount ++ (f.outQ.drop f.sentCount).map (OutEntry.mergeLine l x) } saving := by
  have hreplies : ∀ es : List OutEntry,
      (es.map (OutEntry.mergeLine l x)).countP OutEntry.isReply = es.countP OutEntry.isReply := fun es => by
    rw [List.countP_map]
    exact congrArg (List.countP · es) (funext (isReply_mergeLine l x))
  have hlines : ∀ (k : Nat) (es : List OutEntry),
      (es.map (OutEntry.mergeLine l x)).countP (OutEntry.isLine k) = es.countP (OutEntry.isLine k) := fun k es => by
    rw [List.countP_map]
    exact congrArg (List.countP · es) (funext (isLine_mergeLine l k x))
  have hlen : (f.outQ.take f.sentCount).length = f.sentCount := by
    rcases h.sent_cases with ⟨-, hc⟩ | ⟨_, _, hq, hc⟩ <;> simp [*]
  refine { h with room := ?_, replies := ?_, lines := fun k hk => ?_, sending := ?_ }
  · rw [List.length_append, List.length_map, ← List.length_append, List.take_append_drop]
    exact h.room
  · change (_ ++ _ : List OutEntry).countP _ + f.reserved ≤ 8
    rw [List.countP_append, hreplies, ← List.countP_append, List.take_append_drop]
    exact h.replies
  · change ((_ ++ _ : List OutEntry).drop f.sentCount).countP _ ≤ 1
    rw [List.drop_left' hlen, hlines]
    exact h.lines k hk
  · rcases h.sent_cases with ⟨hs, -⟩ | ⟨e, rest, hq, hc⟩
    · exact .inl hs
    · have hsend := h.sending
      rw [hq] at hsend
      rw [hq, hc]
      exact hsend

/-- Bytes on RXD keep the form (R172 to R174). -/
theorem leadsTo (h : LinkForm f saving) {g : Fli} (hg : f.LeadsTo g) (hlaw : g.receiverLaw) : LinkForm g saving := by
  rw [hg.frame]
  exact { h with
    inputs := hg.depth h.inputs
    errors := (hg.errors h.errors).2
    receiver := Fli.receiverLaw_congr hlaw rfl rfl rfl }

theorem arrive (h : LinkForm f saving) (g : Frame) : LinkForm (f.arrive g) saving := by
  obtain ⟨h1, h2, h3⟩ := f.arrive_receiver g
  exact h.leadsTo (f.leadsTo_arrive g) (Fli.receiverLaw_congr h.receiver h1 h2 h3)

/-- Sending of the head entry begins where none is being sent (R180). -/
theorem startSending (h : LinkForm f saving) (hs : f.sending = none) : LinkForm f.startSending saving := by
  refine { h with lines := fun l hl => ?_, sending := .inr rfl }
  have hall : (f.outQ.drop 0).countP (OutEntry.isLine l) ≤ 1 := by
    have hold := h.lines l hl
    rwa [Fli.sentCount, hs] at hold
  exact ((List.drop_sublist _ f.outQ).countP_le).trans hall

/-- The entry whose frame was sent leaves the queue (R180). -/
theorem endSending (h : LinkForm f saving) {bytes : List Byte} (hs : f.sending = some bytes) :
    LinkForm f.endSending saving := by
  have hcount : f.sentCount = 1 := by rw [Fli.sentCount, hs]; rfl
  have htail : f.outQ.tail.countP OutEntry.isReply ≤ f.replies := (List.tail_sublist _).countP_le
  have hroom := h.room
  have hreplies := h.replies
  refine { h with room := ?_, replies := ?_, lines := fun l hl => ?_, sending := .inl rfl }
  · change f.outQ.tail.length + f.reserved ≤ 48
    rw [List.length_tail]
    omega
  · change f.outQ.tail.countP OutEntry.isReply + f.reserved ≤ 8
    omega
  · have hold := h.lines l hl
    rwa [hcount, List.drop_one] at hold

end LinkForm

/-! ## States with the same link -/

/-- Neither the link nor the profile store differs. -/
def SameLink (s t : State) : Prop := t.fli = s.fli ∧ t.pst = s.pst

theorem SameLink.refl (s : State) : SameLink s s := ⟨rfl, rfl⟩

theorem SameLink.trans {s t u : State} (h : SameLink s t) (h' : SameLink t u) : SameLink s u :=
  ⟨h'.1.trans h.1, h'.2.trans h.2⟩

theorem SameButFlash.sameLink {s t : State} (h : SameButFlash s t) : SameLink s t := by
  rw [h]
  exact .refl s

theorem SameButCells.sameLink {s t : State} (h : SameButCells s t) : SameLink s t := h.flash.sameLink

theorem SameButRepaint.sameLink {s t : State} (h : SameButRepaint s t) : SameLink s t := by
  rw [h]
  exact .refl s

theorem LinkSound.congr {s t : State} (h : LinkSound s) (hst : SameLink s t) : LinkSound t := by
  unfold LinkSound
  rw [hst.1, hst.2]
  exact h

theorem acknowledge_sameLink (s : State) (n : Nat) (side : Side) : SameLink s (s.acknowledge n side) := by
  unfold State.acknowledge
  simp only
  split
  · exact .refl s
  · exact ⟨(State.endAlertFlash_frame ..).sameLink.1, (State.endAlertFlash_frame ..).sameLink.2⟩

/-! ## Notices -/

namespace LinkSound

variable {s : State} (h : LinkSound s)
include h

theorem frameNotice (overload held : Bool) : LinkSound (s.frameNotice overload held) := by
  unfold State.frameNotice
  split
  · rw [State.offer_eq]
    exact LinkForm.offer h rfl fun l hl => nomatch hl
  · exact h

theorem alertNotice (event : AlertEvent) (a : AlertRec) : LinkSound (s.alertNotice event a) := by
  unfold State.alertNotice
  split
  · rw [State.offer_eq]
    exact LinkForm.offer h rfl fun l hl => nomatch hl
  · exact h

/-- A new LINE notice is offered only while none of its line waits (R179). -/
theorem lineNotice (l : Nat) : LinkSound (s.lineNotice l) := by
  unfold State.lineNotice
  simp only
  split
  · exact LinkForm.merge h l (s.line l)
  · next hnone =>
    split
    · rw [State.offer_eq]
      refine LinkForm.offer h rfl fun k hk => ?_
      obtain rfl : l = k := of_decide_eq_true hk
      simpa using hnone
    · exact h

/-! ## The commit -/

theorem fire (n : Nat) (side : Side) (level v : Int) : LinkSound (s.fire n side level v) := by
  unfold State.fire
  refine LinkSound.alertNotice (h.congr ?_) _ _
  exact SameLink.trans (t := (s.setSlot n _).setFau _) (.refl s) (State.alertFlash_frame ..).sameLink

theorem checkLimit (n : Nat) (v : Int) (side : Side) : LinkSound (s.checkLimit n v side) := by
  unfold State.checkLimit
  split
  · split
    · exact h.fire ..
    · exact h
  · exact h
  · exact h

theorem alertCheckOf (n : Nat) (es : List (Field × Int)) : LinkSound (s.alertCheckOf n es) := by
  unfold State.alertCheckOf
  split
  · exact (h.checkLimit ..).checkLimit ..
  · exact h

theorem take (n : Nat) : LinkSound (s.take n) := by
  have hstored : LinkSound (s.stored n) := h
  rw [State.take_eq]
  exact (hstored.alertCheckOf n (s.pendingOf n)).congr
    ((s.started_frame n).sameLink.trans (State.paintSlot_frame ..).sameLink)

theorem endCommit : LinkSound s.endCommit :=
  LinkSound.frameNotice (s := s.setCme { s.cme with state := .idle }) h _ _

theorem commitStep : LinkSound s.commitStep := by
  unfold State.commitStep
  split
  · exact h.endCommit
  · split
    · exact h.take _
    · exact h.endCommit

theorem scanStart : LinkSound s.scanStart := by
  have h1 : LinkSound (s.setDtg { s.dtg with phase := .scan }) := h
  unfold State.scanStart
  simp only
  split
  · exact h1.endCommit
  · exact h1

/-! ## The frame start -/

theorem begun (held : Bool) : LinkSound (s.begun held) := LinkForm.mk h.inputs h.room h.replies h.reserved h.errors h.lines
  h.sending h.receiver

theorem heldNotice (before after : Bool) : LinkSound (s.heldNotice before after) := by
  unfold State.heldNotice
  split
  · split
    · exact h.frameNotice ..
    · exact LinkSound.frameNotice (s := s.draw) h _ _
  · exact h

theorem acted (held : Bool) : LinkSound (s.acted held) := by
  cases held with
  | false =>
    refine (h.begun false).congr ((State.decay_frame _).sameLink.trans ?_)
    exact SameLink.trans (t := (s.begun false).decay.agedSlots _) (.refl _) (State.ageSlots_frame ..).sameLink
  | true => exact (h.begun true).heldNotice ..

theorem frameStart : LinkSound s.frameStart := by
  obtain ⟨c, hc⟩ := s.frameStart_eq
  rw [hc]
  exact (h.acted s.held).congr (.refl _)

/-! ## The edge of a line -/

theorem acknowledgeHead : LinkSound s.acknowledgeHead := by
  unfold State.acknowledgeHead
  split
  · exact h
  · exact h.congr (acknowledge_sameLink ..)

theorem ackEdge (l : Nat) : LinkSound (s.ackEdge l) := by
  unfold State.ackEdge
  split
  · exact h.lineNotice l
  · next a _ _ =>
    have hack := h.acknowledgeHead
    have hdraw : LinkSound s.acknowledgeHead.draw := hack
    simp only
    split
    · split
      · exact (hdraw.alertNotice .keyack a).lineNotice l
      · exact (hdraw.lineNotice l).alertNotice .keyack a
    · exact (hack.alertNotice .keyack a).lineNotice l

theorem debouncedEdge (l : Nat) : LinkSound (s.debouncedEdge l) := by
  have hline : LinkSound (s.setLine l (s.line l).edge) := h
  unfold State.debouncedEdge
  simp only
  split
  · exact hline.ackEdge l
  · exact hline.lineNotice l

/-! ## Replies -/

/-- A reply is built where R175 lets a request be taken. -/
theorem reply (hroom : s.fli.roomToTake = true) (kind tag : Byte) (st : Status) (body : ReplyBody) :
    LinkSound (s.reply kind tag st body) := by
  obtain ⟨hreplies, hlength⟩ := s.fli.roomToTake_iff.mp hroom
  have happend := LinkForm.append h (e := .reply kind tag st s.replyFlags body) hlength (fun _ => hreplies)
    fun l hl => nomatch hl
  exact { happend with }

theorem dropHead : LinkSound s.dropHead :=
  LinkForm.mk (List.length_tail ▸ (Nat.sub_le _ _).trans h.inputs) h.room h.replies h.reserved h.errors h.lines h.sending
    h.receiver

end LinkSound

/-! ## Requests -/

/-- What a request's action leaves is sound once its reply is queued. -/
def Replies (act : State → Answer) : Prop :=
  ∀ (s : State) (f : Frame), LinkSound s → s.fli.roomToTake = true → LinkSound ((act s).finish f)

/-- A request is taken with room for its reply, waits, or joins the queue (R174, R175). -/
theorem Replies.serve {act : State → Answer} (hact : Replies act) {s t : State} {f : Frame} (hs : LinkSound s)
    (h : s.serve f act = .next t) : LinkSound t := by
  rcases State.serve_cases s f act with ⟨hcan, ht⟩ | ⟨-, -, ht⟩ | ⟨-, -, ht⟩ <;>
    rw [ht, Host.Outcome.next.injEq] at h <;> subst h
  · exact hact s.dropHead f hs.dropHead (Bool.and_eq_true_iff.mp hcan).1
  · exact hs
  · exact LinkForm.arrive hs f

/-- The answer leaves the link and the profile store to its reply. -/
structure Answer.Quiet (s : State) (a : Answer) : Prop where
  link : SameLink s a.state
  replied : a.reply.isSome = true

theorem refuse_quiet (st : Status) (s : State) : (refuse st s).Quiet s := ⟨.refl s, rfl⟩

theorem accept_quiet {s t : State} (h : SameLink s t) (body : ReplyBody) : (accept body t).Quiet s := ⟨h, rfl⟩

theorem Answer.Quiet.finish {s : State} {a : Answer} (ha : a.Quiet s) (hs : LinkSound s)
    (hroom : s.fli.roomToTake = true) (f : Frame) : LinkSound (a.finish f) := by
  obtain ⟨r, hr⟩ := Option.isSome_iff_exists.mp ha.replied
  unfold Answer.finish
  rw [hr]
  refine (hs.congr ha.link).reply ?_ _ _ _ _
  rw [ha.link.1]
  exact hroom

theorem Replies.of_quiet {act : State → Answer} (h : ∀ s, (act s).Quiet s) : Replies act :=
  fun s f hs hroom => (h s).finish hs hroom f

theorem Replies.withOps {α : Type} {act : α → State → Answer} (h : ∀ o, Replies (act o)) (body : Body α) :
    Replies (withOps body act) := by
  cases body with
  | ops o => exact h o
  | malformed bytes => exact .of_quiet (refuse_quiet .badLength)

end Sys2Proof.Machine
end

-- ==== Proofs: every step keeps the laws of the link ====
section
/-!
O55. What each request's action leaves of the link, then every command: its action, or the event's own writes.
-/

namespace Sys2Proof.Machine

/-! ## Actions that leave the link to the reply -/

section

variable (s : State)

theorem formatAction_quiet (o : FormatOps) : (formatAction o s).Quiet s := by
  unfold formatAction
  repeat' split
  all_goals exact ⟨⟨rfl, rfl⟩, rfl⟩

theorem modeAction_quiet (o : ModeOps) : (modeAction o s).Quiet s := by
  unfold modeAction
  repeat' split
  all_goals exact ⟨⟨rfl, rfl⟩, rfl⟩

theorem screenAction_quiet (o : ScreenOps) : (screenAction o s).Quiet s := by
  unfold screenAction
  repeat' split
  all_goals exact ⟨⟨rfl, rfl⟩, rfl⟩

theorem paletteAction_quiet (o : PaletteOps) : (paletteAction o s).Quiet s := by
  unfold paletteAction
  repeat' split
  all_goals exact ⟨⟨rfl, rfl⟩, rfl⟩

theorem styleAction_quiet (o : StyleOps) : (styleAction o s).Quiet s := by
  unfold styleAction
  repeat' split
  all_goals exact ⟨⟨rfl, rfl⟩, rfl⟩

theorem fontareaAction_quiet (o : FontAreaOps) : (fontareaAction o s).Quiet s := by
  unfold fontareaAction
  repeat' split
  all_goals exact ⟨⟨rfl, rfl⟩, rfl⟩

theorem glyphsAction_quiet (o : GlyphsOps) : (glyphsAction o s).Quiet s := by
  unfold glyphsAction
  repeat' split
  all_goals exact ⟨⟨rfl, rfl⟩, rfl⟩

theorem pageAction_quiet (o : PageOps) : (pageAction o s).Quiet s := by
  unfold pageAction
  repeat' split
  all_goals exact ⟨⟨rfl, rfl⟩, rfl⟩

theorem unpageAction_quiet (o : UnpageOps) : (unpageAction o s).Quiet s := by
  unfold unpageAction
  repeat' split
  all_goals exact ⟨⟨rfl, rfl⟩, rfl⟩

theorem textAction_quiet (o : TextOps) : (textAction o s).Quiet s := by
  unfold textAction
  repeat' split
  all_goals exact ⟨⟨rfl, rfl⟩, rfl⟩

theorem qcellsAction_quiet (o : QcellsOps) : (qcellsAction o s).Quiet s := by
  unfold qcellsAction
  repeat' split
  all_goals exact ⟨⟨rfl, rfl⟩, rfl⟩

theorem paneAction_quiet (o : PaneOps) : (paneAction o s).Quiet s := by
  unfold paneAction
  repeat' split
  all_goals exact ⟨⟨rfl, rfl⟩, rfl⟩

theorem scrollAction_quiet (o : ScrollOps) : (scrollAction o s).Quiet s := by
  unfold scrollAction
  simp only
  repeat' split
  all_goals exact ⟨⟨rfl, rfl⟩, rfl⟩

theorem clipAction_quiet (o : ClipOps) : (clipAction o s).Quiet s := by
  unfold clipAction
  repeat' split
  all_goals exact ⟨⟨rfl, rfl⟩, rfl⟩

theorem crawlAction_quiet (o : CrawlOps) : (crawlAction o s).Quiet s := by
  unfold crawlAction
  repeat' split
  all_goals exact ⟨⟨rfl, rfl⟩, rfl⟩

theorem crawlctlAction_quiet (o : CrawlctlOps) : (crawlctlAction o s).Quiet s := by
  unfold crawlctlAction
  repeat' split
  all_goals exact ⟨⟨rfl, rfl⟩, rfl⟩

theorem defineAction_quiet (o : DefineOps) : (defineAction o s).Quiet s := by
  unfold defineAction
  repeat' split
  all_goals exact ⟨⟨rfl, rfl⟩, rfl⟩

theorem layoutAction_quiet (o : LayoutOps) : (layoutAction o s).Quiet s := by
  unfold layoutAction
  repeat' split
  all_goals exact ⟨⟨rfl, rfl⟩, rfl⟩

theorem limitAction_quiet (o : LimitOps) : (limitAction o s).Quiet s := by
  unfold limitAction
  simp only
  repeat' split
  all_goals exact ⟨⟨rfl, rfl⟩, rfl⟩

theorem holdAction_quiet (o : HoldOps) : (holdAction o s).Quiet s := by
  unfold holdAction
  repeat' split
  all_goals exact ⟨⟨rfl, rfl⟩, rfl⟩

theorem linesAction_quiet (o : LinesOps) : (linesAction o s).Quiet s := by
  unfold linesAction
  repeat' split
  all_goals exact ⟨⟨rfl, rfl⟩, rfl⟩

theorem qslotAction_quiet (o : QslotOps) : (qslotAction o s).Quiet s := ⟨⟨rfl, rfl⟩, rfl⟩

theorem identAction_quiet (o : NoOps) : (identAction o s).Quiet s := ⟨⟨rfl, rfl⟩, rfl⟩

theorem fillAction_quiet (o : FillOps) : (fillAction o s).Quiet s := by
  unfold fillAction
  split
  · split
    · exact refuse_quiet ..
    · split
      · exact accept_quiet (Claims.State.fillRect_frame ..).sameLink _
      · exact refuse_quiet ..
  · exact refuse_quiet ..

theorem dropSlot_sameLink (n : Nat) : SameLink s (s.dropSlot n) := by
  let s1 := s.setUpq { s.upq with
    pool := Table.clearRun s.upq.pool (poolKey n 0) 8
    dirty := s.upq.dirty.filter (· != n) }
  let s2 := (s1.flashesOf n).foldl State.endFlash s1
  let s3 := s2.setFau { s2.fau with alerts := s2.fau.alerts.filter fun a => a.slot != n }
  have hflash : SameLink s1 s2 := foldl_rel SameLink .refl (fun _ _ _ => .trans)
    (fun t i => (State.endFlash_frame t i).sameLink) _ _
  have hcells : SameLink s3 ((s3.slot n).placements.foldl State.blankPlacement s3) :=
    foldl_rel SameLink .refl (fun _ _ _ => .trans) (fun t p => (State.blankPlacement_frame t p).sameLink) _ _
  exact ⟨hcells.1.trans hflash.1, hcells.2.trans hflash.2⟩

theorem dropAction_quiet (o : DropOps) : (dropAction o s).Quiet s := by
  unfold dropAction
  simp only
  split
  · exact accept_quiet (dropSlot_sameLink s _) _
  · exact refuse_quiet ..

theorem addPlacement_sameLink (n : Nat) (p : Placement) : SameLink s (s.addPlacement n p) := by
  rw [State.addPlacement_eq]
  exact ⟨(State.writePlacement_frame ..).sameLink.1, (State.writePlacement_frame ..).sameLink.2⟩

theorem placeAction_quiet (o : PlaceOps) : (placeAction o s).Quiet s := by
  unfold placeAction
  simp only
  split
  · split
    · split
      · exact refuse_quiet ..
      · split
        · exact refuse_quiet ..
        · split
          · split
            · exact accept_quiet (addPlacement_sameLink ..) _
            · exact refuse_quiet ..
          · exact refuse_quiet ..
    · exact refuse_quiet ..
  · exact refuse_quiet ..

theorem removePlacement_sameLink (n i : Nat) (p : Placement) : SameLink s (s.removePlacement n i p) :=
  (State.blankPlacement_frame s p).sameLink

theorem unplaceAction_quiet (o : UnplaceOps) : (unplaceAction o s).Quiet s := by
  unfold unplaceAction
  simp only
  split
  · exact refuse_quiet ..
  · split
    · split
      · exact refuse_quiet ..
      · exact accept_quiet (removePlacement_sameLink ..) _
    · exact refuse_quiet ..

theorem ackAction_quiet (o : AckOps) : (ackAction o s).Quiet s := by
  unfold ackAction
  simp only
  split
  · exact refuse_quiet ..
  · split
    · split
      · exact accept_quiet (acknowledge_sameLink ..) _
      · exact refuse_quiet ..
    · exact refuse_quiet ..

theorem postTo_quiet (n : Nat) (ps : Option (List PairOps)) : (postTo n ps s).Quiet s := by
  unfold postTo
  repeat' split
  all_goals exact ⟨⟨rfl, rfl⟩, rfl⟩

theorem postAction_quiet (body : Body PostOps) : (postAction body s).Quiet s := by
  unfold postAction
  split
  · exact postTo_quiet ..
  · exact postTo_quiet ..
  · exact refuse_quiet ..

end

/-! ## Actions that write the link -/

theorem noteAction_replies (o : NoteOps) : Replies (noteAction o) := by
  intro s f hs hroom
  unfold noteAction
  split
  · exact (refuse_quiet ..).finish hs hroom f
  · next m _ =>
    have hmask : LinkSound (s.setFli { s.fli with mask := m }) := LinkForm.mk hs.inputs hs.room hs.replies hs.reserved
      hs.errors hs.lines hs.sending hs.receiver
    exact hmask.reply hroom _ _ _ _

theorem statusAction_replies (o : NoOps) : Replies (statusAction o) := by
  intro s f hs hroom
  have hcount : LinkSound (s.setFli { s.fli with linkErrors := 0 }) := LinkForm.mk hs.inputs hs.room hs.replies
    hs.reserved (Nat.zero_le _) hs.lines hs.sending hs.receiver
  exact hcount.reply hroom _ _ _ _

/-- A SAVE reserves a place where its reply would have had room (R175, R190). -/
theorem saveAction_replies (tag : Byte) (o : NoOps) : Replies (saveAction tag o) := by
  intro s f hs hroom
  unfold saveAction
  split
  · exact (refuse_quiet ..).finish hs hroom f
  · next hidle =>
    split
    · exact (refuse_quiet ..).finish hs hroom f
    · obtain ⟨hreplies, hlength⟩ := s.fli.roomToTake_iff.mp hroom
      have hnone : s.fli.reserved = 0 := hs.reserved.trans (if_neg hidle)
      exact LinkForm.mk hs.inputs hlength hreplies (congrArg (· + 1) hnone) hs.errors hs.lines hs.sending hs.receiver

/-- The link after a reset is empty, with the place of a SAVE in flight (R183, R192). -/
theorem emptied_form {saving : Bool} {reserved : Nat} (h : reserved = if saving then 1 else 0) (hrdy : Level)
    (rdyStart : RdyStart) :
    LinkForm { Fli.reset with hrdy := hrdy, reserved := reserved, rdyStart := rdyStart } saving := by
  have hone : reserved ≤ 1 := by
    rw [h]
    split <;> decide
  exact
    { inputs := Nat.zero_le _, errors := Nat.zero_le _, reserved := h, receiver := ⟨rfl, rfl⟩, sending := .inl rfl
      lines := fun _ _ => Nat.zero_le _
      room := by
        change 0 + reserved ≤ 48
        omega
      replies := by
        change 0 + reserved ≤ 8
        omega }

theorem resetAction_replies (o : NoOps) : Replies (resetAction o) := by
  intro s f hs _
  have hform := emptied_form hs.reserved s.fli.hrdy .following
  have hreset : LinkSound (s.resetBlocks s.gcu.glyphs s.fli.softReset s.pst.programming) := hform
  have hone : s.fli.reserved ≤ 1 := by
    rw [hs.reserved]
    split <;> decide
  refine hreset.reply ((Fli.roomToTake_iff _).mpr ⟨?_, ?_⟩) _ _ _ _
  · change 0 + s.fli.reserved < 8
    omega
  · change 0 + s.fli.reserved < 48
    omega

/-- After power-on and hard reset no SAVE is in flight (R192). -/
theorem hardReset_sound (s : State) (glyphs : Table GlyphRow) :
    LinkSound (s.resetBlocks glyphs s.fli.hardReset none) :=
  emptied_form (saving := false) (reserved := 0) rfl s.fli.hrdy .waitFrame

/-- The reply of a SAVE takes the place that it reserved (R190). -/
theorem completeSave_sound {s : State} (hs : LinkSound s) {p : Programming} (hp : s.pst.programming = some p) :
    LinkSound (s.completeSave p) := by
  have hone : s.fli.reserved = 1 := hs.reserved.trans (by rw [hp]; rfl)
  have hroom := hs.room
  have hreplies := hs.replies
  let t := s.setPst { s.pst with
    gens := Table.set .unused s.pst.gens p.generation { s.gen p.generation with done := some p.data }
    programming := none }
  have hfree : LinkSound (t.setFli { t.fli with reserved := t.fli.reserved - 1 }) :=
    LinkForm.mk hs.inputs ((Nat.add_le_add_left (Nat.sub_le ..) _).trans hroom)
      ((Nat.add_le_add_left (Nat.sub_le ..) _).trans hreplies) (congrArg (· - 1) hone) hs.errors hs.lines hs.sending
      hs.receiver
  refine hfree.reply ((Fli.roomToTake_iff _).mpr ⟨?_, ?_⟩) _ _ _ _
  · change s.fli.replies + (s.fli.reserved - 1) < 8
    omega
  · change s.fli.outQ.length + (s.fli.reserved - 1) < 48
    omega

/-! ## The commands -/

/-- A quiet action on a request's operands. -/
theorem serve_quiet {α : Type} {act : α → State → Answer} (hact : ∀ s o, (act o s).Quiet s) {body : Body α}
    {s t : State} {f : Frame} (hs : LinkSound s) (h : s.serve f (withOps body act) = .next t) : LinkSound t :=
  Replies.serve (.withOps (fun o => .of_quiet (hact · o)) body) hs h

/-- Every command keeps the laws of the link. -/
theorem exec_sound {i : Instr} {s t : State} (hs : LinkSound s) (h : exec i s = .next t) : LinkSound t := by
  have hev : ∀ {u : State}, Host.Outcome.next (φ := Fault) (ρ := Refusal) u = .next t → LinkSound u → LinkSound t :=
    fun he hu => Host.Outcome.next.inj he ▸ hu
  cases i with
  | format tag body => exact serve_quiet formatAction_quiet hs h
  | mode tag body => exact serve_quiet modeAction_quiet hs h
  | screen tag body => exact serve_quiet screenAction_quiet hs h
  | palette tag body => exact serve_quiet paletteAction_quiet hs h
  | style tag body => exact serve_quiet styleAction_quiet hs h
  | fontarea tag body => exact serve_quiet fontareaAction_quiet hs h
  | glyphs tag body => exact serve_quiet glyphsAction_quiet hs h
  | page tag body => exact serve_quiet pageAction_quiet hs h
  | unpage tag body => exact serve_quiet unpageAction_quiet hs h
  | text tag body => exact serve_quiet textAction_quiet hs h
  | fill tag body => exact serve_quiet fillAction_quiet hs h
  | qcells tag body => exact serve_quiet qcellsAction_quiet hs h
  | pane tag body => exact serve_quiet paneAction_quiet hs h
  | scroll tag body => exact serve_quiet scrollAction_quiet hs h
  | clip tag body => exact serve_quiet clipAction_quiet hs h
  | crawl tag body => exact serve_quiet crawlAction_quiet hs h
  | crawlctl tag body => exact serve_quiet crawlctlAction_quiet hs h
  | define tag body => exact serve_quiet defineAction_quiet hs h
  | drop tag body => exact serve_quiet dropAction_quiet hs h
  | layout tag body => exact serve_quiet layoutAction_quiet hs h
  | place tag body => exact serve_quiet placeAction_quiet hs h
  | unplace tag body => exact serve_quiet unplaceAction_quiet hs h
  | post tag body => exact Replies.serve (.of_quiet (postAction_quiet · body)) hs h
  | limit tag body => exact serve_quiet limitAction_quiet hs h
  | ack tag body => exact serve_quiet ackAction_quiet hs h
  | hold tag body => exact serve_quiet holdAction_quiet hs h
  | qslot tag body => exact serve_quiet qslotAction_quiet hs h
  | status tag body => exact Replies.serve (.withOps statusAction_replies body) hs h
  | ident tag body => exact serve_quiet identAction_quiet hs h
  | note tag body => exact Replies.serve (.withOps noteAction_replies body) hs h
  | lines tag body => exact serve_quiet linesAction_quiet hs h
  | save tag body => exact Replies.serve (.withOps (saveAction_replies tag) body) hs h
  | reset tag body => exact Replies.serve (.withOps resetAction_replies body) hs h
  | unknownKind kind tag bytes => exact Replies.serve (.of_quiet (refuse_quiet .unknownKind)) hs h
  | saveCompletion =>
    change execSaveCompletion s = .next t at h
    unfold execSaveCompletion at h
    split at h
    · next p hp => exact hev h (completeSave_sound hs hp)
    · exact hev h hs
  | frameStart =>
    change execFrameStart s = .next t at h
    unfold execFrameStart at h
    split at h
    · split at h
      · exact hev h hs.frameStart
      · exact hev h hs
    · exact hev h hs
  | commitStep =>
    change execCommitStep s = .next t at h
    unfold execCommitStep at h
    split at h
    · exact hev h hs.commitStep
    · exact hev h hs
  | scanStart =>
    change execScanStart s = .next t at h
    unfold execScanStart at h
    split at h
    · exact hev h hs.scanStart
    · exact hev h hs
  | sleepEntry =>
    change execSleepEntry s = .next t at h
    unfold execSleepEntry at h
    split at h
    · exact hev h hs
    · exact hev h hs
  | rxdByte byte stopLow =>
    exact hev h (LinkForm.leadsTo hs (s.fli.rxByte_leadsTo byte stopLow) (Fli.rxByte_law hs.receiver byte stopLow))
  | gapTimerExpiry =>
    change execGapTimerExpiry s = .next t at h
    unfold execGapTimerExpiry at h
    split at h
    · exact hev h (LinkForm.leadsTo hs (s.fli.leadsTo_discarded.trans s.fli.discardFrame_leadsTo)
        s.fli.discardFrame_law)
    · exact hev h hs
  | transmitStart hrdy =>
    have hpin : LinkSound (s.setFli { s.fli with hrdy := hrdy }) := LinkForm.mk hs.inputs hs.room hs.replies hs.reserved
      hs.errors hs.lines hs.sending hs.receiver
    change execTransmitStart hrdy s = .next t at h
    unfold execTransmitStart at h
    simp only at h
    split at h
    · next hready => exact hev h (LinkForm.startSending hpin hready.2)
    · exact hev h hpin
  | transmitEnd =>
    change execTransmitEnd s = .next t at h
    unfold execTransmitEnd at h
    split at h
    · next bytes hsend => exact hev h (LinkForm.endSending hs hsend)
    · exact hev h hs
  | linePinChange line level => exact hev h hs
  | debounceExpiry line =>
    change execDebounceExpiry line s = .next t at h
    unfold execDebounceExpiry at h
    split at h
    · exact hev h (hs.debouncedEdge _)
    · exact hev h hs
  | powerOnReset => exact hev h (hardReset_sound s _)
  | hardReset => exact hev h (hardReset_sound s _)
  | rdyRise =>
    have hrise : LinkSound (s.setFli { s.fli with rdyStart := .following }) := LinkForm.mk hs.inputs hs.room hs.replies
      hs.reserved hs.errors hs.lines hs.sending hs.receiver
    change execRdyRise s = .next t at h
    unfold execRdyRise at h
    split at h
    · exact hev h hrise
    · exact hev h hs
    · exact hev h hs

/-- Settles O55: the waiting command keeps the form of the link, and with none waiting nothing changes. -/
theorem stepKeepsLinkLaws : Obligations.StepKeepsLinkLaws := by
  intro s t hlaw hreceiver h
  have hs : LinkSound s := (linkSound_iff s).mpr ⟨hlaw, hreceiver⟩
  refine (linkSound_iff t).mp ?_
  cases hp : s.pending with
  | nil => exact Host.Outcome.next.inj ((step_nil s hp).symm.trans h) ▸ hs
  | cons i rest => exact exec_sound (s := { s with pending := rest }) hs ((step_cons s i rest hp).symm.trans h)

end Sys2Proof.Machine
end

-- ==== Proofs: the bodies of requests ====
section
/-!
SUPPORT. The decoder and the encoder of each request's body agree: what a well-formed body is read back as, and what the
bytes of a body are read as, by whether they have the length that R185 requires.
-/

namespace Sys2Proof

/-! ## What agreement is -/

/-- The decoder of a body reads back what the encoder writes of operands that a frame carries; bytes of the required
length are those of some operands, which a frame carries if it has room for the bytes; other bytes are malformed. -/
structure Codec {α : Type} (kind : Nat) (ok : α → Bool) (enc : α → List Byte) (dec : List Byte → Body α) : Prop where
  reads : ∀ o, ok o = true → dec (enc o) = .ops o
  fits : ∀ bs, lengthFits kind bs = true → ∃ o, dec bs = .ops o ∧ enc o = bs ∧ (bs.length ≤ maxBody → ok o = true)
  misfits : ∀ bs, lengthFits kind bs = false → dec bs = .malformed bs

namespace Codec

variable {α : Type} {kind : Nat} {ok : α → Bool} {enc : α → List Byte} {dec : List Byte → Body α}

theorem read (h : Codec kind ok enc dec) {b : Body α} (hb : b.wf kind ok = true) : dec (b.bytes enc) = b := by
  cases b with
  | ops o => exact h.reads o hb
  | malformed bs => exact h.misfits bs (by simpa using (Bool.and_eq_true_iff.mp hb).1)

theorem bytes (h : Codec kind ok enc dec) (bs : List Byte) : (dec bs).bytes enc = bs := by
  cases hf : lengthFits kind bs with
  | true =>
    obtain ⟨o, hdec, henc, -⟩ := h.fits bs hf
    rw [hdec]
    exact henc
  | false =>
    rw [h.misfits bs hf]
    rfl

theorem wf (h : Codec kind ok enc dec) {bs : List Byte} (hlen : bs.length ≤ maxBody) :
    (dec bs).wf kind ok = true := by
  cases hf : lengthFits kind bs with
  | true =>
    obtain ⟨o, hdec, -, hok⟩ := h.fits bs hf
    rw [hdec]
    exact hok hlen
  | false =>
    rw [h.misfits bs hf]
    simp [Body.wf, hf, hlen]

/-- A body of `n` bytes, whatever they hold. -/
theorem of_length {n : Nat} (hlen : ∀ bs, lengthFits kind bs = (bs.length == n)) (hread : ∀ o, dec (enc o) = .ops o)
    (hfull : ∀ bs, bs.length = n → ∃ o, enc o = bs) (hother : ∀ bs, bs.length ≠ n → dec bs = .malformed bs) :
    Codec kind (fun _ => true) enc dec where
  reads o _ := hread o
  fits bs h := by
    obtain ⟨o, rfl⟩ := hfull bs (by simpa using (hlen bs).symm.trans h)
    exact ⟨o, hread o, rfl, fun _ => rfl⟩
  misfits bs h := hother bs (by simpa using (hlen bs).symm.trans h)

end Codec

/-! ## Bodies of a fixed length -/

theorem format_codec : Codec 0x01 (fun _ => true) encodeFormat decodeFormat :=
  .of_length (n := 1) (fun _ => rfl) (fun _ => rfl)
    (fun | [f], _ => ⟨⟨f⟩, rfl⟩) fun bs h => by
    unfold decodeFormat
    split
    · exact absurd rfl h
    · rfl

theorem mode_codec : Codec 0x02 (fun _ => true) encodeMode decodeMode :=
  .of_length (n := 5) (fun _ => rfl) (fun _ => rfl)
    (fun | [a, b, c, d, e], _ => ⟨⟨a, b, c, d, e⟩, rfl⟩) fun bs h => by
    unfold decodeMode
    split
    · exact absurd rfl h
    · rfl

theorem style_codec : Codec 0x05 (fun _ => true) encodeStyle decodeStyle :=
  .of_length (n := 11) (fun _ => rfl) (fun _ => rfl)
    (fun | [b0, b1, b2, b3, b4, b5, b6, b7, b8, b9, b10], _ =>
          ⟨⟨b0, b1, b2, b3, b4, b5, b6, b7, b8, b9, b10⟩, rfl⟩) fun bs h => by
    unfold decodeStyle
    split
    · exact absurd rfl h
    · rfl

theorem unpage_codec : Codec 0x11 (fun _ => true) encodeUnpage decodeUnpage :=
  .of_length (n := 1) (fun _ => rfl) (fun _ => rfl)
    (fun | [i], _ => ⟨⟨i⟩, rfl⟩) fun bs h => by
    unfold decodeUnpage
    split
    · exact absurd rfl h
    · rfl

theorem qcells_codec : Codec 0x14 (fun _ => true) encodeQcells decodeQcells :=
  .of_length (n := 4) (fun _ => rfl) (fun _ => rfl)
    (fun | [a, b, c, d], _ => ⟨⟨a, b, c, d⟩, rfl⟩) fun bs h => by
    unfold decodeQcells
    split
    · exact absurd rfl h
    · rfl

theorem pane_codec : Codec 0x18 (fun _ => true) encodePane decodePane :=
  .of_length (n := 13) (fun _ => rfl) (fun _ => rfl)
    (fun | [b0, b1, b2, b3, b4, b5, b6, b7, b8, b9, b10, b11, b12], _ =>
          ⟨⟨b0, b1, b2, b3, b4, b5, b6, b7, b8, b9, b10, b11, b12⟩, rfl⟩) fun bs h => by
    unfold decodePane
    split
    · exact absurd rfl h
    · rfl

theorem scroll_codec : Codec 0x19 (fun _ => true) encodeScroll decodeScroll :=
  .of_length (n := 3) (fun _ => rfl) (fun _ => rfl)
    (fun | [a, b, c], _ => ⟨⟨a, b, c⟩, rfl⟩) fun bs h => by
    unfold decodeScroll
    split
    · exact absurd rfl h
    · rfl

theorem clip_codec : Codec 0x1a (fun _ => true) encodeClip decodeClip :=
  .of_length (n := 5) (fun _ => rfl) (fun _ => rfl)
    (fun | [a, b, c, d, e], _ => ⟨⟨a, b, c, d, e⟩, rfl⟩) fun bs h => by
    unfold decodeClip
    split
    · exact absurd rfl h
    · rfl

theorem crawlctl_codec : Codec 0x1c (fun _ => true) encodeCrawlctl decodeCrawlctl :=
  .of_length (n := 3) (fun _ => rfl) (fun _ => rfl)
    (fun | [a, b, c], _ => ⟨⟨a, b, c⟩, rfl⟩) fun bs h => by
    unfold decodeCrawlctl
    split
    · exact absurd rfl h
    · rfl

theorem drop_codec : Codec 0x21 (fun _ => true) encodeDrop decodeDrop :=
  .of_length (n := 1) (fun _ => rfl) (fun _ => rfl)
    (fun | [a], _ => ⟨⟨a⟩, rfl⟩) fun bs h => by
    unfold decodeDrop
    split
    · exact absurd rfl h
    · rfl

theorem place_codec : Codec 0x23 (fun _ => true) encodePlace decodePlace :=
  .of_length (n := 5) (fun _ => rfl) (fun _ => rfl)
    (fun | [a, b, c, d, e], _ => ⟨⟨a, b, c, d, e⟩, rfl⟩) fun bs h => by
    unfold decodePlace
    split
    · exact absurd rfl h
    · rfl

theorem unplace_codec : Codec 0x24 (fun _ => true) encodeUnplace decodeUnplace :=
  .of_length (n := 2) (fun _ => rfl) (fun _ => rfl)
    (fun | [a, b], _ => ⟨⟨a, b⟩, rfl⟩) fun bs h => by
    unfold decodeUnplace
    split
    · exact absurd rfl h
    · rfl

theorem ack_codec : Codec 0x27 (fun _ => true) encodeAck decodeAck :=
  .of_length (n := 2) (fun _ => rfl) (fun _ => rfl)
    (fun | [a, b], _ => ⟨⟨a, b⟩, rfl⟩) fun bs h => by
    unfold decodeAck
    split
    · exact absurd rfl h
    · rfl

theorem hold_codec : Codec 0x28 (fun _ => true) encodeHold decodeHold :=
  .of_length (n := 1) (fun _ => rfl) (fun _ => rfl)
    (fun | [a], _ => ⟨⟨a⟩, rfl⟩) fun bs h => by
    unfold decodeHold
    split
    · exact absurd rfl h
    · rfl

theorem qslot_codec : Codec 0x29 (fun _ => true) encodeQslot decodeQslot :=
  .of_length (n := 1) (fun _ => rfl) (fun _ => rfl)
    (fun | [a], _ => ⟨⟨a⟩, rfl⟩) fun bs h => by
    unfold decodeQslot
    split
    · exact absurd rfl h
    · rfl

theorem note_codec : Codec 0x32 (fun _ => true) encodeNote decodeNote :=
  .of_length (n := 1) (fun _ => rfl) (fun _ => rfl)
    (fun | [a], _ => ⟨⟨a⟩, rfl⟩) fun bs h => by
    unfold decodeNote
    split
    · exact absurd rfl h
    · rfl

theorem lines_codec : Codec 0x33 (fun _ => true) encodeLines decodeLines :=
  .of_length (n := 4) (fun _ => rfl) (fun _ => rfl)
    (fun | [a, b, c, d], _ => ⟨⟨a, b, c, d⟩, rfl⟩) fun bs h => by
    unfold decodeLines
    split
    · exact absurd rfl h
    · rfl

/-- An empty body, of whichever request. -/
theorem empty_codec {kind : Nat} (hlen : ∀ bs, lengthFits kind bs = (bs.length == 0)) :
    Codec kind (fun _ => true) encodeEmpty decodeEmpty := by
  refine .of_length hlen (fun _ => rfl) (fun bs h => ?_) fun bs h => ?_
  · exact ⟨⟨⟩, (List.length_eq_zero_iff.mp h).symm⟩
  · unfold decodeEmpty
    split
    · exact absurd rfl h
    · rfl

theorem fontarea_codec : Codec 0x06 (fun _ => true) encodeFontarea decodeFontarea := by
  refine .of_length (n := 8) (fun _ => rfl) (fun o => ?_) (fun bs h => ?_) fun bs h => ?_
  · exact congrArg₂ (fun st m => Body.ops { o with start := st, mask := m })
      (word_extract o.start) (word_extract o.mask)
  · match bs, h with
    | [a, e, sh, sl, mh, ml, bk, ba], _ =>
      exact ⟨⟨a, e, word sh sl, word mh ml, bk, ba⟩, by simp [encodeFontarea, u16Bytes_word]⟩
  · unfold decodeFontarea
    split
    · exact absurd rfl h
    · rfl

theorem page_codec : Codec 0x10 (fun _ => true) encodePage decodePage := by
  refine .of_length (n := 5) (fun _ => rfl) (fun o => ?_) (fun bs h => ?_) fun bs h => ?_
  · exact congrArg (fun w => Body.ops { o with base := w }) (word_extract o.base)
  · match bs, h with
    | [i, bh, bl, r, c], _ => exact ⟨⟨i, word bh bl, r, c⟩, by simp [encodePage, u16Bytes_word]⟩
  · unfold decodePage
    split
    · exact absurd rfl h
    · rfl

theorem fill_codec : Codec 0x13 (fun _ => true) encodeFill decodeFill := by
  refine .of_length (n := 10) (fun _ => rfl) (fun o => ?_) (fun bs h => ?_) fun bs h => ?_
  · exact congrArg (fun w => Body.ops { o with code := w }) (word_extract o.code)
  · match bs, h with
    | [i, t, l, r, c, ch, cl, fg, bg, fl], _ =>
      exact ⟨⟨i, t, l, r, c, word ch cl, fg, bg, fl⟩, by simp [encodeFill, u16Bytes_word]⟩
  · unfold decodeFill
    split
    · exact absurd rfl h
    · rfl

/-- A LIMIT body has a level or none, by its length (R111). -/
theorem limit_codec : Codec 0x26 (fun _ => true) encodeLimit decodeLimit where
  reads o _ := by
    obtain ⟨sl, li, ac, level⟩ := o
    cases level with
    | none => rfl
    | some v => exact congrArg (fun w => Body.ops (LimitOps.mk sl li ac (some w))) (value40_extract v)
  fits bs h := by
    have hlen : bs.length = 3 ∨ bs.length = 8 := by simpa using (Bool.or_eq_true_iff.mp h)
    rcases hlen with hlen | hlen
    · match bs, hlen with
      | [sl, li, ac], _ => exact ⟨⟨sl, li, ac, none⟩, rfl, rfl, fun _ => rfl⟩
    · match bs, hlen with
      | [sl, li, ac, a, b, c, d, e], _ =>
        exact ⟨⟨sl, li, ac, some (value40 a b c d e)⟩, rfl, by simp [encodeLimit, value40Bytes_value40], fun _ => rfl⟩
  misfits bs h := by
    obtain ⟨h3, h8⟩ := Bool.or_eq_false_iff.mp h
    unfold decodeLimit
    split
    · exact absurd rfl (ne_of_beq_false h3)
    · exact absurd rfl (ne_of_beq_false h8)
    · rfl

/-! ## Items one after another -/

/-- The decoder of items of `size` bytes, one after another, undoes their encoder, and the other way round. -/
structure Items {β : Type} (size : Nat) (enc : β → List Byte) (dec : List Byte → List β) : Prop where
  length : ∀ x, (enc x).length = size
  read : ∀ xs : List β, dec (xs.flatMap enc) = xs
  bytes : ∀ (n : Nat) (bs : List Byte), bs.length = size * n → (dec bs).length = n ∧ (dec bs).flatMap enc = bs

/-- Items are read one by one, and any bytes of the size are one. -/
theorem Items.of_cons {β : Type} {size : Nat} {enc : β → List Byte} {dec : List Byte → List β}
    (hlen : ∀ x, (enc x).length = size) (hnil : dec [] = []) (hcons : ∀ x rest, dec (enc x ++ rest) = x :: dec rest)
    (hone : ∀ bs : List Byte, bs.length = size → ∃ x, enc x = bs) : Items size enc dec where
  length := hlen
  read xs := by
    induction xs with
    | nil => exact hnil
    | cons x xs ih => rw [List.flatMap_cons, hcons, ih]
  bytes n bs h := by
    induction n generalizing bs with
    | zero =>
      obtain rfl := List.length_eq_zero_iff.mp h
      exact ⟨by rw [hnil]; rfl, by rw [hnil]; rfl⟩
    | succ n ih =>
      rw [Nat.mul_succ] at h
      obtain ⟨x, hx⟩ := hone (bs.take size) (by rw [List.length_take]; omega)
      obtain ⟨h1, h2⟩ := ih (bs.drop size) (by rw [List.length_drop]; omega)
      have hsplit : bs = enc x ++ bs.drop size := by rw [hx, List.take_append_drop]
      rw [hsplit, hcons, List.length_cons, h1, List.flatMap_cons, h2]
      exact ⟨rfl, rfl⟩

theorem flatMap_length {β γ : Type} {size : Nat} {enc : β → List γ} (xs : List β)
    (h : ∀ x ∈ xs, (enc x).length = size) : (xs.flatMap enc).length = size * xs.length := by
  rw [List.length_flatMap, List.map_congr_left h, List.map_const', List.sum_replicate, smul_eq_mul, Nat.mul_comm]

theorem u8_toNat {n : Nat} (h : n ≤ 255) : (u8 n).toNat = n := by
  rw [u8, BitVec.toNat_ofNat]
  omega

@[simp] theorem u8_of_toNat (b : Byte) : u8 b.toNat = b := BitVec.ofNat_toNat .. |>.trans (BitVec.setWidth_eq b)

theorem countFits_iff {n head unit : Nat} : countFits n head unit = true ↔ n ≤ 255 ∧ head + unit * n ≤ 1022 := by
  exact Bool.and_eq_true_iff.trans (and_congr decide_eq_true_iff decide_eq_true_iff)

/-- A body whose count is the last of its leading bytes has the required length where the rest has (R185). -/
theorem countedLength_append (head : List Byte) (n : Byte) (rest : List Byte) (unit : Nat) :
    countedLength (head ++ n :: rest) head.length (head.length + 1) unit =
      decide (rest.length = unit * n.toNat) := by
  have hcount : countAt (head ++ n :: rest) head.length = some n.toNat := by simp [countAt]
  rw [countedLength, hcount, Bool.eq_iff_iff, beq_iff_eq, decide_eq_true_iff, List.length_append, List.length_cons]
  omega

namespace Items

variable {β : Type} {unit : Nat} {enc : β → List Byte} {dec : List Byte → List β}

/-- The items written have the length that their count requires. -/
theorem length_eq (h : Items unit enc dec) {xs : List β} {head : Nat} (hok : countFits xs.length head unit = true) :
    (xs.flatMap enc).length = unit * (u8 xs.length).toNat := by
  rw [u8_toNat (countFits_iff.mp hok).1]
  exact flatMap_length xs fun x _ => h.length x

/-- Bytes of the length that the count requires are those of as many items. -/
theorem counted (h : Items unit enc dec) {n : Byte} {rest : List Byte} (hlen : rest.length = unit * n.toNat) :
    u8 (dec rest).length = n ∧ (dec rest).flatMap enc = rest ∧
      ∀ head, rest.length + head ≤ maxBody → countFits (dec rest).length head unit = true := by
  obtain ⟨hcount, hbytes⟩ := h.bytes n.toNat rest hlen
  refine ⟨by rw [hcount, u8_of_toNat], hbytes, fun head hmax => countFits_iff.mpr ⟨?_, ?_⟩⟩
  · rw [hcount]
    omega
  · rw [hcount, ← hlen, Nat.add_comm]
    exact hmax

end Items

theorem bytes_items : Items 1 (fun b => [b]) id :=
  .of_cons (fun _ => rfl) rfl (fun _ _ => rfl) fun bs h =>
    match bs, h with
    | [b], _ => ⟨b, rfl⟩

theorem rgbs_items : Items 3 (fun e => [e.r, e.g, e.b]) rgbs :=
  .of_cons (fun _ => rfl) rfl (fun _ _ => rfl) fun bs h =>
    match bs, h with
    | [r, g, b], _ => ⟨⟨r, g, b⟩, rfl⟩

theorem words_items : Items 2 u16Bytes words :=
  .of_cons (fun _ => rfl) rfl (fun w rest => congrArg (· :: words rest) (word_extract w)) fun bs h =>
    match bs, h with
    | [hi, lo], _ => ⟨word hi lo, u16Bytes_word hi lo⟩

theorem columns_items : Items 8 encodeColumn columns :=
  .of_cons (fun _ => rfl) rfl (fun _ _ => rfl) fun bs h =>
    match bs, h with
    | [src, off, w, al, st, sep, md, co], _ => ⟨⟨src, off, w, al, st, sep, md, co⟩, rfl⟩

theorem pairs_items : Items 6 (fun p => p.field :: value40Bytes p.value) pairs :=
  .of_cons (fun _ => rfl) rfl (fun p rest => congrArg (fun v => PairOps.mk p.field v :: pairs rest) (value40_extract p.value))
    fun bs h =>
      match bs, h with
      | [f, a, b, c, d, e], _ => ⟨⟨f, value40 a b c d e⟩, congrArg (f :: ·) (value40Bytes_value40 a b c d e)⟩

/-! ## Bodies with a count -/

theorem word_toNat (hi lo : Byte) : (word hi lo).toNat = 256 * hi.toNat + lo.toNat := by
  rw [word, BitVec.toNat_append, Nat.shiftLeft_eq, Nat.mul_comm, ← Nat.two_pow_add_eq_or_of_lt lo.isLt]

theorem screen_codec :
    Codec 0x03 (fun o => countFits o.banner.length 3 1) encodeScreen decodeScreen where
  reads o hok := by
    have hlen : o.banner.length = (u8 o.banner.length).toNat := (u8_toNat (countFits_iff.mp hok).1).symm
    exact if_pos hlen
  fits bs h := by
    match bs, h with
    | b :: d :: n :: chars, h =>
      have hlen := of_decide_eq_true ((countedLength_append [b, d] n chars 1).symm.trans h)
      obtain ⟨hcount, -, hfits⟩ := bytes_items.counted hlen
      refine ⟨⟨b, d, chars⟩, if_pos (by simpa using hlen), congrArg (fun c => b :: d :: c :: chars) hcount,
        fun hmax => hfits 3 hmax⟩
  misfits bs h := by
    match bs, h with
    | [], _ => rfl
    | [_], _ => rfl
    | [_, _], _ => rfl
    | b :: d :: n :: chars, h =>
      have hlen := of_decide_eq_false ((countedLength_append [b, d] n chars 1).symm.trans h)
      exact if_neg (by simpa using hlen)

theorem palette_codec :
    Codec 0x04 (fun o => countFits o.entries.length 2 3) encodePalette decodePalette where
  reads o hok := (if_pos (rgbs_items.length_eq hok)).trans
    (congrArg (fun xs => Body.ops { o with entries := xs }) (rgbs_items.read o.entries))
  fits bs h := by
    match bs, h with
    | st :: n :: rest, h =>
      have hlen := of_decide_eq_true ((countedLength_append [st] n rest 3).symm.trans h)
      obtain ⟨hcount, hbytes, hfits⟩ := rgbs_items.counted hlen
      exact ⟨⟨st, rgbs rest⟩, if_pos hlen, congrArg₂ (fun count items => [st] ++ count :: items) hcount hbytes,
        fun hmax => hfits 2 hmax⟩
  misfits bs h := by
    match bs, h with
    | [], _ => rfl
    | [_], _ => rfl
    | st :: n :: rest, h =>
      exact if_neg (of_decide_eq_false ((countedLength_append [st] n rest 3).symm.trans h))

theorem text_codec :
    Codec 0x12 (fun o => countFits o.codes.length 7 2) encodeText decodeText where
  reads o hok := (if_pos (words_items.length_eq hok)).trans
    (congrArg (fun xs => Body.ops { o with codes := xs }) (words_items.read o.codes))
  fits bs h := by
    match bs, h with
    | i :: r :: c :: fg :: bg :: fl :: n :: rest, h =>
      have hlen := of_decide_eq_true ((countedLength_append [i, r, c, fg, bg, fl] n rest 2).symm.trans h)
      obtain ⟨hcount, hbytes, hfits⟩ := words_items.counted hlen
      exact ⟨⟨i, r, c, fg, bg, fl, words rest⟩, if_pos hlen,
        congrArg₂ (fun count items => [i, r, c, fg, bg, fl] ++ count :: items) hcount hbytes,
        fun hmax => hfits 7 hmax⟩
  misfits bs h := by
    match bs, h with
    | [], _ => rfl
    | [_], _ => rfl
    | [_, _], _ => rfl
    | [_, _, _], _ => rfl
    | [_, _, _, _], _ => rfl
    | [_, _, _, _, _], _ => rfl
    | [_, _, _, _, _, _], _ => rfl
    | i :: r :: c :: fg :: bg :: fl :: n :: rest, h =>
      exact if_neg (of_decide_eq_false ((countedLength_append [i, r, c, fg, bg, fl] n rest 2).symm.trans h))

theorem layout_codec :
    Codec 0x22 (fun o => countFits o.columns.length 2 8) encodeLayout decodeLayout where
  reads o hok := (if_pos (columns_items.length_eq hok)).trans
    (congrArg (fun xs => Body.ops { o with columns := xs }) (columns_items.read o.columns))
  fits bs h := by
    match bs, h with
    | l :: n :: rest, h =>
      have hlen := of_decide_eq_true ((countedLength_append [l] n rest 8).symm.trans h)
      obtain ⟨hcount, hbytes, hfits⟩ := columns_items.counted hlen
      exact ⟨⟨l, columns rest⟩, if_pos hlen, congrArg₂ (fun count items => [l] ++ count :: items) hcount hbytes,
        fun hmax => hfits 2 hmax⟩
  misfits bs h := by
    match bs, h with
    | [], _ => rfl
    | [_], _ => rfl
    | l :: n :: rest, h =>
      exact if_neg (of_decide_eq_false ((countedLength_append [l] n rest 8).symm.trans h))

theorem post_codec :
    Codec 0x25 (fun o => countFits o.pairs.length 2 6) encodePost decodePost where
  reads o hok := (if_pos (pairs_items.length_eq hok)).trans
    (congrArg (fun xs => Body.ops { o with pairs := xs }) (pairs_items.read o.pairs))
  fits bs h := by
    match bs, h with
    | sl :: n :: rest, h =>
      have hlen := of_decide_eq_true ((countedLength_append [sl] n rest 6).symm.trans h)
      obtain ⟨hcount, hbytes, hfits⟩ := pairs_items.counted hlen
      exact ⟨⟨sl, pairs rest⟩, if_pos hlen, congrArg₂ (fun count items => [sl] ++ count :: items) hcount hbytes,
        fun hmax => hfits 2 hmax⟩
  misfits bs h := by
    match bs, h with
    | [], _ => rfl
    | [_], _ => rfl
    | sl :: n :: rest, h =>
      exact if_neg (of_decide_eq_false ((countedLength_append [sl] n rest 6).symm.trans h))

/-- The characters of a CRAWL are counted by a `u16` (R185). -/
theorem crawl_codec : Codec 0x1B (fun o => decide (4 + 2 * o.codes.length ≤ maxBody)) encodeCrawl decodeCrawl where
  reads o hok := by
    have hmax : 4 + 2 * o.codes.length ≤ 1022 := of_decide_eq_true hok
    have hcount : (BitVec.ofNat 16 o.codes.length).toNat = o.codes.length := by
      rw [BitVec.toNat_ofNat]
      omega
    have hlen : (o.codes.flatMap u16Bytes).length = 2 * (word _ _).toNat :=
      (flatMap_length (size := 2) (enc := u16Bytes) o.codes fun _ _ => rfl).trans
        (congrArg (2 * ·) (hcount.symm.trans (congrArg BitVec.toNat (word_extract _).symm)))
    exact (if_pos hlen).trans (congrArg (fun xs => Body.ops { o with codes := xs }) (words_items.read o.codes))
  fits bs h := by
    match bs, h with
    | fg :: bg :: nh :: nl :: rest, h =>
      have htotal : rest.length + 4 = 4 + 2 * (256 * nh.toNat + nl.toNat) := of_decide_eq_true h
      have hlen : rest.length = 2 * (word nh nl).toNat := by
        rw [word_toNat]
        omega
      obtain ⟨hcount, hbytes⟩ := words_items.bytes _ rest hlen
      have hback : u16Bytes (BitVec.ofNat 16 (words rest).length) = [nh, nl] := by
        rw [hcount, BitVec.ofNat_toNat, BitVec.setWidth_eq, u16Bytes_word]
      refine ⟨⟨fg, bg, words rest⟩, if_pos hlen,
        congrArg₂ (fun count items => [fg, bg] ++ count ++ items) hback hbytes, fun hmax => decide_eq_true ?_⟩
      rw [hcount, ← hlen, Nat.add_comm]
      exact hmax
  misfits bs h := by
    match bs, h with
    | [], _ => rfl
    | [_], _ => rfl
    | [_, _], _ => rfl
    | [_, _, _], _ => rfl
    | fg :: bg :: nh :: nl :: rest, h =>
      have htotal : rest.length + 4 ≠ 4 + 2 * (256 * nh.toNat + nl.toNat) := of_decide_eq_false h
      refine if_neg fun hlen => htotal ?_
      rw [hlen, word_toNat]
      omega

/-- The symbol of a DEFINE stands between its count and the last five bytes (R185). -/
theorem define_codec : Codec 0x20 (fun o => countFits o.symbol.length 7 1) encodeDefine decodeDefine where
  reads o hok := by
    have hcount : (u8 o.symbol.length).toNat = o.symbol.length := u8_toNat (countFits_iff.mp hok).1
    have hbytes : encodeDefine o = o.slot :: u8 o.symbol.length ::
        (o.symbol ++ [o.scaleKind, o.scaleParam, o.flashStyle] ++ u16Bytes o.stale) := by simp [encodeDefine]
    rw [hbytes, decodeDefine, hcount, List.append_assoc, List.drop_left, List.take_left]
    exact congrArg (fun w => Body.ops { o with stale := w }) (word_extract o.stale)
  fits bs h := by
    match bs, h with
    | sl :: n :: rest, h =>
      have htotal : rest.length + 2 = 7 + 1 * n.toNat := of_decide_eq_true h
      obtain ⟨k, p, fs, sh, slo, htail⟩ : ∃ k p fs sh slo, rest.drop n.toNat = [k, p, fs, sh, slo] := by
        have hfive : (rest.drop n.toNat).length = 5 := by
          rw [List.length_drop]
          omega
        match rest.drop n.toNat, hfive with
        | [k, p, fs, sh, slo], _ => exact ⟨k, p, fs, sh, slo, rfl⟩
      have htake : (rest.take n.toNat).length = n.toNat := by
        rw [List.length_take]
        omega
      refine ⟨⟨sl, rest.take n.toNat, k, p, fs, word sh slo⟩, ?_, ?_, fun hmax => countFits_iff.mpr ⟨?_, ?_⟩⟩
      · rw [decodeDefine, htail]
      · simp only [encodeDefine, htake, u8_of_toNat, u16Bytes_word]
        change sl :: n :: (rest.take n.toNat ++ [k, p, fs] ++ [sh, slo]) = _
        rw [List.append_assoc, ← List.take_append_drop n.toNat rest, htail]
        simp [htake]
      · rw [htake]
        omega
      · have hroom : rest.length + 2 ≤ 1022 := hmax
        rw [htake]
        omega
  misfits bs h := by
    match bs, h with
    | [], _ => rfl
    | [_], _ => rfl
    | sl :: n :: rest, h =>
      have htotal : rest.length + 2 ≠ 7 + 1 * n.toNat := of_decide_eq_false h
      rw [decodeDefine]
      split
      · next htail =>
        have hfive := congrArg List.length htail
        rw [List.length_drop] at hfive
        exact absurd (by simp at hfive; omega) htotal
      · rfl

/-! ## GLYPHS -/

/-- Rows in groups of one size are read back from the rows one after another. -/
theorem groups_flatten {β : Type} {size : Nat} (gs : List (List β)) (h : ∀ g ∈ gs, g.length = size) :
    groups size gs.length gs.flatten = gs := by
  induction gs with
  | nil => rfl
  | cons g gs ih =>
    have hg : g.length = size := h g (by simp)
    rw [List.flatten_cons, List.length_cons, groups, List.take_left' hg, List.drop_left' hg,
      ih fun x hx => h x (by simp [hx])]

theorem flatten_groups {β : Type} {size : Nat} (n : Nat) (l : List β) (h : l.length = size * n) :
    (groups size n l).length = n ∧ (groups size n l).flatten = l ∧ ∀ g ∈ groups size n l, g.length = size := by
  induction n generalizing l with
  | zero => exact ⟨rfl, (List.length_eq_zero_iff.mp h).symm, nofun⟩
  | succ n ih =>
    rw [Nat.mul_succ] at h
    obtain ⟨h1, h2, h3⟩ := ih (l.drop size) (by rw [List.length_drop]; omega)
    refine ⟨congrArg (· + 1) h1, ?_, fun g hg => ?_⟩
    · rw [groups, List.flatten_cons, h2, List.take_append_drop]
    · rcases List.mem_cons.mp hg with rfl | hg
      · rw [List.length_take]
        omega
      · exact h3 g hg

theorem glyphs_codec : Codec 0x07 (fun o => o.glyphs.all (fun g => g.length == 20) && countFits o.glyphs.length 3 40)
    encodeGlyphs decodeGlyphs where
  reads o hok := by
    obtain ⟨hrows, hcount⟩ := Bool.and_eq_true_iff.mp hok
    have htwenty : ∀ g ∈ o.glyphs, g.length = 20 := by simpa using hrows
    have hn : (u8 o.glyphs.length).toNat = o.glyphs.length := u8_toNat (countFits_iff.mp hcount).1
    have hflat : o.glyphs.flatten.length = 20 * o.glyphs.length := by
      simpa [List.flatMap] using flatMap_length (enc := id) o.glyphs htwenty
    have hlen : (o.glyphs.flatten.flatMap u16Bytes).length = 40 * (u8 o.glyphs.length).toNat := by
      rw [flatMap_length (size := 2) _ fun _ _ => rfl, hflat, hn]
      omega
    refine (if_pos hlen).trans (congrArg (fun xs => Body.ops { o with glyphs := xs }) ?_)
    rw [hn]
    exact (congrArg (groups 20 _) (words_items.read o.glyphs.flatten)).trans (groups_flatten _ htwenty)
  fits bs h := by
    match bs, h with
    | bk :: fi :: n :: rest, h =>
      have hlen := of_decide_eq_true ((countedLength_append [bk, fi] n rest 40).symm.trans h)
      obtain ⟨hwords, hbytes⟩ := words_items.bytes (20 * n.toNat) rest (by omega)
      obtain ⟨hcount, hflat, htwenty⟩ := flatten_groups n.toNat (words rest) hwords
      refine ⟨⟨bk, fi, groups 20 n.toNat (words rest)⟩, if_pos hlen, ?_, fun hmax => ?_⟩
      · simp only [encodeGlyphs, hcount, u8_of_toNat, hflat, hbytes]
        rfl
      · have hroom : rest.length + 3 ≤ 1022 := hmax
        refine Bool.and_eq_true_iff.mpr ⟨by simpa using htwenty, countFits_iff.mpr ?_⟩
        rw [hcount]
        omega
  misfits bs h := by
    match bs, h with
    | [], _ => rfl
    | [_], _ => rfl
    | [_, _], _ => rfl
    | bk :: fi :: n :: rest, h =>
      exact if_neg (of_decide_eq_false ((countedLength_append [bk, fi] n rest 40).symm.trans h))

end Sys2Proof
end

-- ==== Proofs: the frames of requests ====
section
/-!
O3, O4. A request and its frame are read back from one another: by its kind, and then by the codec of its body.
-/

namespace Sys2Proof.Claims

open Sys2Proof.Machine

/-! ## From a command to its frame and back -/

/-- A kind that names no request is read as one. -/
theorem decodeFrame_unknown {f : Frame} (h : requestKinds.contains f.kind.toNat = false) :
    decodeFrame f = .unknownKind f.kind f.tag f.body := by
  unfold decodeFrame
  split
  case h_34 => rfl
  all_goals
    next hk =>
    rw [hk] at h
    exact absurd h (by decide)

/-- A well-formed body is read back from the bytes of its frame. -/
theorem codec_command {α : Type} {kind : Nat} {ok : α → Bool} {enc : α → List Byte} {dec : List Byte → Body α}
    (h : Codec kind ok enc dec) (make : Body α → Instr) {b : Body α} (hb : b.wf kind ok = true) :
    make (dec (b.bytes enc)) = make b := congrArg make (h.read hb)

/-- Settles O3: the frame's kind names the command, and its body is read back. -/
theorem decodeEncodeAgree : Obligations.DecodeEncodeAgree := by
  intro i f hwf hf
  cases i with
  | format tag b =>
    cases hf
    exact codec_command format_codec (.format tag) hwf
  | mode tag b =>
    cases hf
    exact codec_command mode_codec (.mode tag) hwf
  | screen tag b =>
    cases hf
    exact codec_command screen_codec (.screen tag) hwf
  | palette tag b =>
    cases hf
    exact codec_command palette_codec (.palette tag) hwf
  | style tag b =>
    cases hf
    exact codec_command style_codec (.style tag) hwf
  | fontarea tag b =>
    cases hf
    exact codec_command fontarea_codec (.fontarea tag) hwf
  | glyphs tag b =>
    cases hf
    exact codec_command glyphs_codec (.glyphs tag) hwf
  | page tag b =>
    cases hf
    exact codec_command page_codec (.page tag) hwf
  | unpage tag b =>
    cases hf
    exact codec_command unpage_codec (.unpage tag) hwf
  | text tag b =>
    cases hf
    exact codec_command text_codec (.text tag) hwf
  | fill tag b =>
    cases hf
    exact codec_command fill_codec (.fill tag) hwf
  | qcells tag b =>
    cases hf
    exact codec_command qcells_codec (.qcells tag) hwf
  | pane tag b =>
    cases hf
    exact codec_command pane_codec (.pane tag) hwf
  | scroll tag b =>
    cases hf
    exact codec_command scroll_codec (.scroll tag) hwf
  | clip tag b =>
    cases hf
    exact codec_command clip_codec (.clip tag) hwf
  | crawl tag b =>
    cases hf
    exact codec_command crawl_codec (.crawl tag) hwf
  | crawlctl tag b =>
    cases hf
    exact codec_command crawlctl_codec (.crawlctl tag) hwf
  | define tag b =>
    cases hf
    exact codec_command define_codec (.define tag) hwf
  | drop tag b =>
    cases hf
    exact codec_command drop_codec (.drop tag) hwf
  | layout tag b =>
    cases hf
    exact codec_command layout_codec (.layout tag) hwf
  | place tag b =>
    cases hf
    exact codec_command place_codec (.place tag) hwf
  | unplace tag b =>
    cases hf
    exact codec_command unplace_codec (.unplace tag) hwf
  | post tag b =>
    cases hf
    exact codec_command post_codec (.post tag) hwf
  | limit tag b =>
    cases hf
    exact codec_command limit_codec (.limit tag) hwf
  | ack tag b =>
    cases hf
    exact codec_command ack_codec (.ack tag) hwf
  | hold tag b =>
    cases hf
    exact codec_command hold_codec (.hold tag) hwf
  | qslot tag b =>
    cases hf
    exact codec_command qslot_codec (.qslot tag) hwf
  | status tag b =>
    cases hf
    exact codec_command (empty_codec fun _ => rfl) (.status tag) hwf
  | ident tag b =>
    cases hf
    exact codec_command (empty_codec fun _ => rfl) (.ident tag) hwf
  | note tag b =>
    cases hf
    exact codec_command note_codec (.note tag) hwf
  | lines tag b =>
    cases hf
    exact codec_command lines_codec (.lines tag) hwf
  | save tag b =>
    cases hf
    exact codec_command (empty_codec fun _ => rfl) (.save tag) hwf
  | reset tag b =>
    cases hf
    exact codec_command (empty_codec fun _ => rfl) (.reset tag) hwf
  | unknownKind kind tag bytes =>
    cases hf
    exact decodeFrame_unknown (by simpa using (Bool.and_eq_true_iff.mp hwf).1)
  | _ => exact nomatch hf

/-! ## From a frame to its command and back -/

/-- The command that a frame carries gives the frame back, and is well formed where the frame fits the link (R171). -/
def Carries (f : Frame) (i : Instr) : Prop :=
  encodeFrame i = some f ∧ (f.body.length ≤ maxBody → i.wf = true)

/-- A frame of the kind of a request carries that request. -/
theorem carries_of_codec {α : Type} {n : Nat} {ok : α → Bool} {enc : α → List Byte}
    {dec : List Byte → Body α} (h : Codec n ok enc dec) {make : Byte → Body α → Instr}
    (hframe : ∀ t b, encodeFrame (make t b) = some ⟨u8 n, t, b.bytes enc⟩)
    (hwf : ∀ t b, (make t b).wf = b.wf n ok) {f : Frame} (hk : f.kind.toNat = n) :
    Carries f (make f.tag (dec f.body)) := by
  refine ⟨?_, fun hlen => (hwf ..).trans (h.wf hlen)⟩
  rw [hframe, h.bytes, ← hk, u8_of_toNat]

theorem carries_decodeFrame (f : Frame) : Carries f (decodeFrame f) := by
  unfold decodeFrame
  split
  · next hk => exact carries_of_codec format_codec (fun _ _ => rfl) (fun _ _ => rfl) hk
  · next hk => exact carries_of_codec mode_codec (fun _ _ => rfl) (fun _ _ => rfl) hk
  · next hk => exact carries_of_codec screen_codec (fun _ _ => rfl) (fun _ _ => rfl) hk
  · next hk => exact carries_of_codec palette_codec (fun _ _ => rfl) (fun _ _ => rfl) hk
  · next hk => exact carries_of_codec style_codec (fun _ _ => rfl) (fun _ _ => rfl) hk
  · next hk => exact carries_of_codec fontarea_codec (fun _ _ => rfl) (fun _ _ => rfl) hk
  · next hk => exact carries_of_codec glyphs_codec (fun _ _ => rfl) (fun _ _ => rfl) hk
  · next hk => exact carries_of_codec page_codec (fun _ _ => rfl) (fun _ _ => rfl) hk
  · next hk => exact carries_of_codec unpage_codec (fun _ _ => rfl) (fun _ _ => rfl) hk
  · next hk => exact carries_of_codec text_codec (fun _ _ => rfl) (fun _ _ => rfl) hk
  · next hk => exact carries_of_codec fill_codec (fun _ _ => rfl) (fun _ _ => rfl) hk
  · next hk => exact carries_of_codec qcells_codec (fun _ _ => rfl) (fun _ _ => rfl) hk
  · next hk => exact carries_of_codec pane_codec (fun _ _ => rfl) (fun _ _ => rfl) hk
  · next hk => exact carries_of_codec scroll_codec (fun _ _ => rfl) (fun _ _ => rfl) hk
  · next hk => exact carries_of_codec clip_codec (fun _ _ => rfl) (fun _ _ => rfl) hk
  · next hk => exact carries_of_codec crawl_codec (fun _ _ => rfl) (fun _ _ => rfl) hk
  · next hk => exact carries_of_codec crawlctl_codec (fun _ _ => rfl) (fun _ _ => rfl) hk
  · next hk => exact carries_of_codec define_codec (fun _ _ => rfl) (fun _ _ => rfl) hk
  · next hk => exact carries_of_codec drop_codec (fun _ _ => rfl) (fun _ _ => rfl) hk
  · next hk => exact carries_of_codec layout_codec (fun _ _ => rfl) (fun _ _ => rfl) hk
  · next hk => exact carries_of_codec place_codec (fun _ _ => rfl) (fun _ _ => rfl) hk
  · next hk => exact carries_of_codec unplace_codec (fun _ _ => rfl) (fun _ _ => rfl) hk
  · next hk => exact carries_of_codec post_codec (fun _ _ => rfl) (fun _ _ => rfl) hk
  · next hk => exact carries_of_codec limit_codec (fun _ _ => rfl) (fun _ _ => rfl) hk
  · next hk => exact carries_of_codec ack_codec (fun _ _ => rfl) (fun _ _ => rfl) hk
  · next hk => exact carries_of_codec hold_codec (fun _ _ => rfl) (fun _ _ => rfl) hk
  · next hk => exact carries_of_codec qslot_codec (fun _ _ => rfl) (fun _ _ => rfl) hk
  · next hk => exact carries_of_codec (empty_codec fun _ => rfl) (fun _ _ => rfl) (fun _ _ => rfl) hk
  · next hk => exact carries_of_codec (empty_codec fun _ => rfl) (fun _ _ => rfl) (fun _ _ => rfl) hk
  · next hk => exact carries_of_codec note_codec (fun _ _ => rfl) (fun _ _ => rfl) hk
  · next hk => exact carries_of_codec lines_codec (fun _ _ => rfl) (fun _ _ => rfl) hk
  · next hk => exact carries_of_codec (empty_codec fun _ => rfl) (fun _ _ => rfl) (fun _ _ => rfl) hk
  · next hk => exact carries_of_codec (empty_codec fun _ => rfl) (fun _ _ => rfl) (fun _ _ => rfl) hk
  · refine ⟨rfl, fun hlen => Bool.and_eq_true_iff.mpr ⟨?_, decide_eq_true hlen⟩⟩
    simp_all [requestKinds]

/-- Settles O4: what a frame carries, kind by kind. -/
theorem encodeDecodeAgree : Obligations.EncodeDecodeAgree := fun f => carries_decodeFrame f

end Sys2Proof.Claims
end

-- ==== Proofs: the bytes of replies and notices ====
section
/-!
O47. The payloads of replies and notices part by part, as R184 and R185 lay them out; then the two commands of
transmission.
-/

namespace Sys2Proof.Claims

open Sys2Proof.Machine

/-! ## Numbers -/

/-- A byte of a word is that of the number it holds. -/
theorem extractLsb'_byte {w : Nat} (v : BitVec w) (k : Nat) :
    v.extractLsb' k 8 = BitVec.ofNat 8 (v.toNat / 2 ^ k) := by
  rw [BitVec.extractLsb', Nat.shiftRight_eq_div_pow]

theorem bigEndian_one (n : Nat) : bigEndian 1 n = [u8 n] :=
  congrArg (fun m => [BitVec.ofNat 8 m]) (Nat.div_one n)

theorem bigEndian_two (n : Nat) : bigEndian 2 n = u16 n := by
  have hbyte : ∀ k, k = 8 ∨ k = 0 → BitVec.ofNat 8 (n / 2 ^ k) = BitVec.ofNat 8 (n % 2 ^ 16 / 2 ^ k) := fun k hk => by
    refine BitVec.eq_of_toNat_eq ?_
    rw [BitVec.toNat_ofNat, BitVec.toNat_ofNat]
    rcases hk with rfl | rfl <;> omega
  simp only [u16, u16Bytes, extractLsb'_byte, BitVec.toNat_ofNat]
  rw [← hbyte 8 (.inl rfl), ← hbyte 0 (.inr rfl)]
  rfl

theorem bigEndian_four (v : FrameNo) : bigEndian 4 v.toNat = u32Bytes v := by
  simp only [u32Bytes, extractLsb'_byte]
  rfl

theorem value40_eq (v : Int) : Claims.value40 v = signed40 v := by
  simp only [Claims.value40, signed40, value40Bytes, extractLsb'_byte, BitVec.toNat_ofInt]
  rfl

theorem symbol_eq (cs : List Byte) : bigEndian 1 cs.length ++ cs = symbolBytes cs := by
  rw [bigEndian_one]
  rfl

/-! ## Choices and flags -/

theorem switch_eq (b : Bool) : switch b = onOffByte b := by
  cases b <;> rfl

theorem status_choice (x : Status) : choice statuses x = x.byte := by
  cases x <;> rfl

theorem function_choice (x : LineFunc) : choice functions x = x.byte := by
  cases x <;> rfl

theorem level_choice (x : Level) : choice [.low, .high] x = levelByte x := by
  cases x <;> rfl

theorem power_choice (x : Power) : choice [.awake, .asleep] x = x.byte := by
  cases x <;> rfl

theorem phase_choice (x : Phase) : choice [.blank, .scan] x = x.byte := by
  cases x <;> rfl

theorem format_choice (x : Format) : choice [.f0, .f1, .f2, .f3] x = x.byte := by
  cases x <;> rfl

theorem colourMode_choice (x : ColourMode) : choice [.full, .reduced] x = x.byte := by
  cases x <;> rfl

theorem slotState_choice (x : SlotState) : choice [.free, .quiet, .fresh, .stale] x = x.byte := by
  cases x <;> rfl

theorem direction_choice (x : Direction) : choice [.none, .up, .down] x = x.byte := by
  cases x <;> rfl

theorem event_choice (x : AlertEvent) : choice [.fired, .keyack] x = x.byte := by
  cases x <;> rfl

theorem side_choice (x : Side) : choice [.high, .low] x = x.byte := by
  cases x <;> rfl

theorem flagBits_five : ∀ a b c d e : Bool, flagBits [a, b, c, d, e] = bits a b c d e := by decide

theorem flagBits_three : ∀ a b c : Bool, flagBits [a, b, c] = bits a b c false false := by decide

/-! ## Items -/

theorem present_value (v : Option Int) : present 5 (v.map Claims.value40) = presence40 v := by
  cases v with
  | none => rfl
  | some v => exact congrArg (1 :: ·) (value40_eq v)

theorem present_frame (n : Option FrameNo) : present 4 (n.map fun n => bigEndian 4 n.toNat) = presenceFrame n := by
  cases n with
  | none => rfl
  | some n => exact congrArg (1 :: ·) (bigEndian_four n)

theorem limitItem_eq (l : Limit) : limitItem l = (l.byte, l.level) := by
  cases l <;> rfl

theorem cell_bytes (c : Cell) :
    bigEndian 2 c.code.toNat ++ bigEndian 1 c.fg ++ bigEndian 1 c.bg ++
        [flagBits [c.flags.und, c.flags.blk, c.flags.dim]] ++ bigEndian 1 (c.ref.getD 0xFF) ++ [switch c.stale] =
      c.bytes := by
  have hcode : u16 c.code.toNat = u16Bytes c.code := by rw [u16, BitVec.ofNat_toNat, BitVec.setWidth_eq]
  have href : u8 (c.ref.getD 0xFF) = c.ref.elim 0xFF u8 := by cases c.ref <;> rfl
  simp only [bigEndian_one, bigEndian_two, flagBits_three, switch_eq, hcode, href]
  rfl

theorem limit_bytes (l : Limit) : (limitItem l).1 :: Claims.value40 (limitItem l).2 = l.bytes := by
  rw [limitItem_eq, value40_eq]
  rfl

/-! ## Bodies -/

theorem slotBody_eq (r : Slot) (fields : List Nat) (position : Option Nat) :
    slotBody r fields position = slotBytes r fields position := by
  have hplacement : Placement.bytes = fun p => [u8 p.page, u8 p.row, u8 p.col, u8 p.layout] := rfl
  unfold slotBody slotBytes
  rw [slotState_choice, symbol_eq, present_frame]
  simp only [bigEndian_one, bigEndian_two, present_value, direction_choice, limit_bytes]
  rcases r.scale with _ | _ | _ | _ <;> simp [scaleBytes, hplacement, allFields, priceFields]

theorem statusItems_eq (b : StatusBody) : statusItems b = b.bytes := by
  unfold statusItems StatusBody.bytes
  simp only [bigEndian_one, bigEndian_two, bigEndian_four, switch_eq, phase_choice, format_choice, colourMode_choice,
    power_choice]
  cases b.area <;> simp [Area.bytes]

theorem bodyBytes_eq (b : ReplyBody) : bodyBytes b = b.bytes := by
  cases b with
  | empty => rfl
  | power p => exact congrArg (fun x => [x]) (power_choice p)
  | dropped entries alerts => simp only [bodyBytes, bigEndian_one]; rfl
  | extent n => exact bigEndian_one n
  | index n => exact bigEndian_one n
  | merged n => exact bigEndian_one n
  | limit l count => simp only [bodyBytes, bigEndian_one, limitItem_eq]; rfl
  | left n => exact bigEndian_one n
  | holds link key => simp only [bodyBytes, switch_eq]; rfl
  | ring n => exact bigEndian_two n
  | cells cs => exact congrArg (fun g => cs.flatMap g) (funext cell_bytes)
  | slot r fields position => exact slotBody_eq r fields position
  | status b => exact statusItems_eq b
  | ident claimed loaded => simp only [bodyBytes, bigEndian_one, bigEndian_two]; rfl
  | mask m => exact congrArg (fun x => [x]) (flagBits_three ..)
  | lines ls => simp only [bodyBytes, function_choice, level_choice, bigEndian_two]; rfl
  | generation n => exact bigEndian_one n

theorem payloadOf_eq (e : OutEntry) : payloadOf e = e.payload := by
  cases e with
  | reply kind tag st f body =>
    rw [payloadOf, status_choice, flagBits_five, bodyBytes_eq]
    rfl
  | alert event symbol a left =>
    simp only [payloadOf, bigEndian_one, event_choice, side_choice, value40_eq, bigEndian_four]
    rfl
  | frame number slots entries left dirty overload held =>
    simp only [payloadOf, bigEndian_one, bigEndian_two, bigEndian_four, switch_eq]
    rfl
  | line n =>
    simp only [payloadOf, bigEndian_one, bigEndian_two, function_choice, level_choice]
    rfl

/-! ## Transmission -/

theorem exec_transmitStart (l : Level) (s : State) :
    exec (.transmitStart l) s = .next { s with
      fli := { s.fli with
        hrdy := l
        sending := if l = .high ∧ s.fli.sending = none then s.fli.outQ.head?.map fun e => frameBytes e.payload
          else s.fli.sending } } := by
  change execTransmitStart l s = _
  unfold execTransmitStart
  simp only
  split <;> rfl

theorem exec_transmitEnd (s : State) :
    exec .transmitEnd s = if s.fli.sending = none then .next s
      else .next { s with fli := { s.fli with outQ := s.fli.outQ.tail, sending := none } } := by
  change execTransmitEnd s = _
  unfold execTransmitEnd
  cases s.fli.sending <;> rfl

/-- Settles O47: the payloads part by part, and the two commands by whether a frame is being sent. -/
theorem transmissionSendsHead : Obligations.TransmissionSendsHead := by
  refine ⟨fun e => (payloadOf_eq e).symm, fun s => ⟨fun e rest hidle hq => ?_, fun l hl => ?_, fun hsend => ?_,
    fun hidle => ?_⟩⟩
  · rw [exec_transmitStart, if_pos ⟨rfl, hidle⟩, hq]
    rfl
  · have hsame : (if l = .high ∧ s.fli.sending = none then s.fli.outQ.head?.map fun e => frameBytes e.payload
        else s.fli.sending) = s.fli.sending := by
      split
      · next hready =>
        obtain ⟨rfl, hidle⟩ := hready
        rcases hl with hl | hl | hempty
        · exact nomatch hl
        · exact absurd hidle hl
        · rw [hempty, hidle]
          rfl
      · rfl
    rw [exec_transmitStart, hsame]
  · rw [exec_transmitEnd, if_neg hsend]
  · rw [exec_transmitEnd, if_pos hidle]

end Sys2Proof.Claims
end

-- ==== Proofs: requests on the link, STATUS, IDENT and RDY ====
section
/-!
O2, O6, O25, O30. A request that is not taken, the refusal of an unknown kind, the two requests that read, and RDY.
-/

namespace Sys2Proof.Claims

open Sys2Proof.Machine

/-! ## Requests that are not taken -/

/-- A command that a frame carries is the serving of that frame. -/
theorem exec_eq_serve {i : Instr} {f : Frame} (h : encodeFrame i = some f) (s : State) :
    ∃ act, exec i s = s.serve f act := by
  cases i <;> cases h <;> exact ⟨_, rfl⟩

/-- Settles O2: R175's two conditions decide at the head of the queue, and a frame behind others joins them. -/
theorem requestWaitsOrJoins : Obligations.RequestWaitsOrJoins := by
  have hhead : ∀ (s : State) (f : Frame), s.fli.inQ.head? = some f →
      (s.canTake f = true ↔ s.fli.replies + s.fli.reserved < 8 ∧ s.fli.outQ.length + s.fli.reserved < 48) :=
    fun s f hf => (s.canTake_iff f).trans (and_iff_left (.inr hf))
  refine ⟨fun s i f hif => ?_, hhead⟩
  obtain ⟨act, hact⟩ := exec_eq_serve hif s
  refine ⟨fun hfull hf => ?_, fun hcan hf => ?_⟩
  · have hcan : s.canTake f = false := Bool.eq_false_iff.mpr fun h => hfull ((hhead s f hf).mp h)
    rw [hact, State.serve_waits hcan hf]
  · rw [hact, State.serve_joins hcan hf, Fli.arrive_eq]
    rfl

/-- Settles O6: the refusal of an unknown kind, which is taken as any request is. -/
theorem unknownKindRefused : Obligations.UnknownKindRefused := by
  intro s kind tag bytes hcan
  have hexec : exec (.unknownKind kind tag bytes) s = s.serve ⟨kind, tag, bytes⟩ (refuse .unknownKind) := rfl
  refine ⟨?_, rfl⟩
  rw [hexec, State.serve_taken hcan, finish_refuse_eq]

/-! ## STATUS and IDENT -/

/-- Settles O25: each of the two requests answers what its action reads. -/
theorem statusAndIdentRead : Obligations.StatusAndIdentRead :=
  ⟨fun s _ => ⟨request_of_answers (act := statusAction ⟨⟩) rfl rfl
      (.accepted (.status s.dropHead.statusBody) _ rfl rfl), fun _ => wrongLength_of_withOps rfl rfl⟩,
    fun s _ => ⟨request_of_answers (act := identAction ⟨⟩) rfl rfl
      (.accepted (.ident s.dropHead.claimedCount s.dropHead.pst.loaded) _ rfl rfl),
      fun _ => wrongLength_of_withOps rfl rfl⟩⟩

/-! ## RDY -/

theorem rdy_iff (s : State) : s.rdy = .high ↔ s.fli.rdyStart = .following ∧ s.fli.inQ.length ≤ 5 := by
  unfold State.rdy
  split
  · next h => exact ⟨fun _ => ⟨h.1, Nat.le_of_lt_succ h.2⟩, fun _ => rfl⟩
  · next h => exact ⟨nofun, fun hfew => absurd ⟨hfew.1, Nat.lt_succ_of_le hfew.2⟩ h⟩

theorem exec_rdyRise (s : State) :
    exec .rdyRise s = .next { s with
      fli := { s.fli with rdyStart := if s.fli.rdyStart = .timing then .following else s.fli.rdyStart } } := by
  change execRdyRise s = _
  unfold execRdyRise
  cases h : s.fli.rdyStart with
  | timing => rfl
  | waitFrame => exact congrArg (fun r => Host.Outcome.next { s with fli := { s.fli with rdyStart := r } }) h
  | following => exact congrArg (fun r => Host.Outcome.next { s with fli := { s.fli with rdyStart := r } }) h

/-- Settles O30: when RDY is high, and what its rise does in each state of its start. -/
theorem rdyFollowsQueue : Obligations.RdyFollowsQueue := fun s => ⟨rdy_iff s, exec_rdyRise s⟩

end Sys2Proof.Claims
end

-- ==== Proofs: edges of the lines ====
section
/-!
O48. A change of a pin from its line, and an edge that is no acknowledgement: the line, then its report.
-/

namespace Sys2Proof.Claims

open Sys2Proof.Machine

@[simp] theorem State.line_setLine (s : State) (l : Nat) (x : Line) (m : Nat) :
    (s.setLine l x).line m = if m = l then x else s.line m := Table.get_set ..

/-- The timer of an input line runs while the pin differs from the debounced level (R187). -/
theorem pinChange_eq (x : Line) (v : Level) :
    x.pinChange v = { x with pin := v, timer := if x.func.isInput then decide (v ≠ x.level) else x.timer } := by
  unfold Line.pinChange
  split
  · have hbne : (v != x.level) = decide (v ≠ x.level) := Bool.eq_iff_iff.mpr (by simp)
    rw [hbne]
  · rfl

theorem edgeDue_iff (x : Line) : x.edgeDue = true ↔ x.timer = true ∧ x.pin ≠ x.level := by
  simp [Line.edgeDue]

/-- An edge that the ACK key does not take up is reported alone: of another function, at a rising edge, or with the
alert queue empty (R116, R187). -/
theorem debouncedEdge_reported {s : State} {l : Nat}
    (h : ¬ ((s.line l).func = .ack ∧ (s.line l).pin = .low ∧ s.fau.alerts ≠ [])) :
    s.debouncedEdge l = (s.setLine l (s.line l).edge).lineNotice l := by
  unfold State.debouncedEdge
  simp only
  split
  · next hack =>
    have hempty : s.fau.alerts = [] := by
      by_contra hne
      exact h ⟨hack.1, hack.2, hne⟩
    have hsame : (s.setLine l (s.line l).edge).fau.alerts = [] := hempty
    rw [State.ackEdge, hsame]
  · rfl

/-- Settles O48: the line of a changed pin, and an edge with its report. -/
theorem debounceFindsEdges : Obligations.DebounceFindsEdges := by
  refine ⟨fun s l v => ?_, fun s l => ⟨fun hnot => ?_, fun htimer hpin hreport => ?_⟩⟩
  · refine ⟨_, rfl, rfl, fun m => ?_⟩
    rw [State.line_setLine, pinChange_eq]
    split
    · next hm => rw [hm]
    · rfl
  · exact if_neg (mt (edgeDue_iff _).mp hnot)
  · let u := s.setLine l.val (s.line l.val).edge
    have hframe : SameButNotices u (u.lineNotice l.val) := State.lineNotice_frame ..
    have hline : ∀ m, (u.lineNotice l.val).line m = u.line m := fun m => by
      rw [hframe]
      rfl
    refine ⟨u.lineNotice l.val, ?_, ?_, fun m => ?_, ?_⟩
    · change execDebounceExpiry l s = _
      rw [execDebounceExpiry, if_pos ((edgeDue_iff _).mpr ⟨htimer, hpin⟩), debouncedEdge_reported hreport]
    · rw [hframe]
      rfl
    · rw [hline, State.line_setLine]
      rfl
    · have hreported := edgeReported_lineNotice u l.val
      rwa [State.line_setLine, if_pos rfl] at hreported

end Sys2Proof.Claims
end

-- ==== Proofs: SAVE and the resets ====
section
/-!
O27, O28. SAVE and its completion from the claim of a generation; then the resets from the profile they load and the
lines they leave.
-/

namespace Sys2Proof.Claims

open Sys2Proof.Machine

/-- What a list in order holds before its first member that passes does not pass. -/
theorem find?_first {r : Nat → Nat → Prop} (hr : ∀ a b, r a b → ¬ r b a) {p : Nat → Bool} {l : List Nat}
    (hl : l.Pairwise r) {g : Nat} (h : l.find? p = some g) {k : Nat} (hk : k ∈ l) (hkg : r k g) : p k = false := by
  obtain ⟨-, before, after, rfl, hbefore⟩ := List.find?_eq_some_iff_append.mp h
  rcases List.mem_append.mp hk with hk | hk
  · simpa using hbefore k hk
  · rcases List.mem_cons.mp hk with rfl | hk
    · exact absurd hkg (hr _ _ hkg)
    · exact absurd hkg (hr _ _ ((List.pairwise_cons.mp (List.pairwise_append.mp hl).2.1).1 k hk))

/-! ## SAVE -/

/-- The generation claimed is the first of the four that is not (R190). -/
theorem unclaimed_eq_some {s : State} {g : Nat} (h : s.unclaimed = some g) :
    g ∈ [1, 2, 3, 4] ∧ (s.gen g).claimed = false ∧ ∀ k ∈ [1, 2, 3, 4], k < g → (s.gen k).claimed = true := by
  refine ⟨List.mem_of_find?_eq_some h, by simpa using List.find?_some h, fun k hk hlt => ?_⟩
  simpa using find?_first (fun a b hab hba => Nat.lt_asymm hab hba) (by decide : generations.Pairwise (· < ·)) h hk hlt

theorem unclaimed_eq_none (s : State) :
    s.unclaimed = none ↔ ([1, 2, 3, 4].any fun g => !(s.gen g).claimed) = false := by
  unfold State.unclaimed
  rw [List.find?_eq_none, List.any_eq_false]
  rfl

/-- The action refuses with the first of the checks that fails, and with none failing finishes as `done` says: for an
action that may leave its reply for later. -/
def Finishes (act : State → Answer) (s : State) (f : Frame) (checks : List (Bool × Status))
    (done : Frame → State → Prop) : Prop :=
  match firstFailure checks with
  | some st => act s.dropHead = refuse st s.dropHead
  | none => done f ((act s.dropHead).finish f)

section

variable {act : State → Answer} {s : State} {f : Frame} {done : Frame → State → Prop}

/-- A check that fails refuses; with it passed the rest decide. -/
theorem Finishes.check {c : Bool} {st : Status} {checks : List (Bool × Status)}
    (hfail : c = false → act s.dropHead = refuse st s.dropHead) (hpass : c = true → Finishes act s f checks done) :
    Finishes act s f ((c, st) :: checks) done := by
  cases c with
  | false => exact hfail rfl
  | true => exact hpass rfl

theorem request_of_finishes {i : Instr} {checks : List (Bool × Status)} (hf : encodeFrame i = some f)
    (hexec : exec i s = s.serve f act) (h : Finishes act s f checks done) : Request i s checks done := by
  intro f' hf' hcan
  obtain rfl : f = f' := Option.some.inj (hf.symm.trans hf')
  rw [hexec, State.serve_taken hcan]
  unfold Finishes at h
  cases hc : firstFailure checks with
  | some st =>
    rw [hc] at h
    exact congrArg (fun a => Host.Outcome.next (Answer.finish a f)) h
  | none =>
    rw [hc] at h
    exact ⟨_, rfl, h⟩

end

/-- The state of an accepted SAVE of generation `g`. -/
def saved (s : State) (tag : Byte) (g : Nat) : State :=
  { s with
    fli := { s.fli with inQ := s.fli.inQ.tail, reserved := s.fli.reserved + 1 }
    pst := { s.pst with
      gens := Table.set .unused s.pst.gens g { s.gen g with claimed := true }
      programming := some ⟨g, tag,
        ⟨s.dtg.stagedFormat, s.gcu.palette, s.gcu.styles, s.gcu.back, s.gcu.dim, s.gcu.banner⟩⟩ } }

theorem saveAction_busy {s : State} (tag : Byte) (h : s.pst.programming.isNone = false) :
    saveAction tag ⟨⟩ s = refuse .busy s := by
  refine if_pos ?_
  simpa [Option.isSome_iff_ne_none] using h

theorem saveAction_full {s : State} (tag : Byte) (h : s.pst.programming.isNone = true) (hfull : s.unclaimed = none) :
    saveAction tag ⟨⟩ s = refuse .storeFull s := by
  rw [saveAction, if_neg (by simpa using h), hfull]

theorem saveAction_claims {s : State} (tag : Byte) (h : s.pst.programming.isNone = true) {g : Nat}
    (hg : s.unclaimed = some g) : saveAction tag ⟨⟩ s.dropHead = ⟨saved s tag g, none⟩ := by
  have hsame : s.dropHead.unclaimed = some g := hg
  rw [saveAction, if_neg (by simpa using h), hsame]
  rfl

theorem save_request (s : State) (tag : Byte) :
    Request (.save tag (.ops ⟨⟩)) s
      [(s.pst.programming.isNone, .busy), ([1, 2, 3, 4].any fun g => !(s.gen g).claimed, .storeFull)] (fun _ t =>
      ∃ g, g ∈ [1, 2, 3, 4] ∧ (s.gen g).claimed = false ∧ (∀ h ∈ [1, 2, 3, 4], h < g → (s.gen h).claimed = true) ∧
        t = { s with
          fli := { s.fli with inQ := s.fli.inQ.tail, reserved := s.fli.reserved + 1 }
          pst := { s.pst with
            gens := t.pst.gens
            programming := some ⟨g, tag,
              ⟨s.dtg.stagedFormat, s.gcu.palette, s.gcu.styles, s.gcu.back, s.gcu.dim, s.gcu.banner⟩⟩ } } ∧
        ∀ h, t.gen h = if h = g then { s.gen g with claimed := true } else s.gen h) := by
  refine request_of_finishes (act := saveAction tag ⟨⟩) rfl rfl (.check (fun hbusy => ?_) fun hidle =>
    .check (fun hfull => ?_) fun hfree => ?_)
  · exact saveAction_busy tag hbusy
  · exact saveAction_full tag hidle ((unclaimed_eq_none s).mpr hfull)
  · obtain ⟨g, hg⟩ : ∃ g, s.unclaimed = some g := Option.ne_none_iff_exists'.mp fun hnone =>
      nomatch hfree.symm.trans ((unclaimed_eq_none s).mp hnone)
    obtain ⟨hmem, hnew, hlowest⟩ := unclaimed_eq_some hg
    change ∃ g, _
    rw [saveAction_claims tag hidle hg]
    exact ⟨g, hmem, hnew, hlowest, rfl, fun h => Table.get_set ..⟩

/-- Settles O27: SAVE by its checks, and its completion by whether one is in flight. -/
theorem saveClaimsAndCompletes : Obligations.SaveClaimsAndCompletes := by
  refine ⟨fun s tag => ⟨save_request s tag, fun _ => wrongLength_of_withOps rfl rfl⟩, fun s => ⟨fun hnone => ?_,
    fun p hp => ⟨s.completeSave p, ?_, rfl, fun h => ?_⟩⟩⟩
  · change execSaveCompletion s = _
    rw [execSaveCompletion, hnone]
  · change execSaveCompletion s = _
    rw [execSaveCompletion, hp]
  · refine (Table.get_set ..).trans ?_
    split
    · next hh => rw [hh]
    · rfl

/-! ## The resets -/

/-- A reset loads the highest done generation, or the factory profile where none is done (R191). -/
theorem loads (s : State) : Loads s s.loadNumber s.loadProfile := by
  unfold State.loadNumber State.loadProfile
  cases hg : s.highestDone with
  | some g =>
    have hmem : g ∈ [1, 2, 3, 4] := List.mem_reverse.mp (List.mem_of_find?_eq_some hg)
    have hdone : (s.gen g).done.isSome = true := by simpa using List.find?_some hg
    obtain ⟨p, hp⟩ := Option.isSome_iff_exists.mp hdone
    refine .inl ⟨hmem, ?_, fun h hh hlt => ?_⟩
    · change (s.gen g).done = some ((s.gen g).done.getD .factory)
      rw [hp]
      rfl
    · simpa using find?_first (r := fun a b => b < a) (fun a b hab hba => Nat.lt_asymm hab hba) (by decide) hg
        (List.mem_reverse.mpr hh) hlt
  | none =>
    have hall := List.find?_eq_none.mp hg
    exact .inr ⟨rfl, fun h hh => by simpa using hall h (List.mem_reverse.mpr hh), rfl⟩

/-- Every line is an input at its pin's level after a reset (R186). -/
theorem line_resetBlocks {s : State} (h : Table.wf .idle s.lnu.lines = true) (glyphs : Table GlyphRow) (f : Fli)
    (q : Option Programming) (l : Nat) :
    (s.resetBlocks glyphs f q).line l = ⟨.input, (s.line l).pin, (s.line l).pin, 0, false⟩ :=
  Table.get_adjust h (fun _ x => x.afterReset) (fun _ => rfl) l

theorem resetTo_resetBlocks {s : State} (h : Table.wf .idle s.lnu.lines = true) (glyphs : Table GlyphRow) (f : Fli)
    (q : Option Programming) : ResetTo s (s.resetBlocks glyphs f q) f glyphs q :=
  ⟨s.loadNumber, s.loadProfile, loads s, rfl, line_resetBlocks h glyphs f q⟩

/-- No hold is on after a reset: the link hold is off, and no line has the function HOLD (R71, R186). -/
theorem held_resetBlocks {s : State} (h : Table.wf .idle s.lnu.lines = true) (glyphs : Table GlyphRow) (f : Fli)
    (q : Option Programming) : (s.resetBlocks glyphs f q).held = false := by
  have hkey : (s.resetBlocks glyphs f q).keyHold = false := by
    rw [← Bool.not_eq_true, keyHold_iff]
    rintro ⟨l, -, hfunc, -⟩
    rw [line_resetBlocks h] at hfunc
    exact nomatch hfunc
  exact hkey

/-- Settles O28: each reset sets the blocks, and RESET then queues its reply. -/
theorem resetsSetEverything : Obligations.ResetsSetEverything := by
  refine ⟨fun s h => ⟨⟨_, rfl, resetTo_resetBlocks h ..⟩, ⟨_, rfl, resetTo_resetBlocks h ..⟩⟩, fun s tag h =>
    ⟨request_of_answers (act := resetAction ⟨⟩) rfl rfl (.accepted .empty _ rfl ?_),
      fun _ => wrongLength_of_withOps rfl rfl⟩⟩
  let u := s.dropHead.resetBlocks s.gcu.glyphs s.fli.softReset s.pst.programming
  have hflags : u.replyFlags = ⟨false, false, false, false, false⟩ := by
    rw [State.replyFlags, held_resetBlocks (s := s.dropHead) h]
    rfl
  refine ⟨s.loadNumber, s.loadProfile, loads s, ?_, line_resetBlocks (s := s.dropHead) h _ _ _⟩
  change u.setFli { u.fli with
    outQ := u.fli.outQ ++ [.reply 0xBF tag .ok u.replyFlags .empty], overrun := false, nlost := false } = _
  rw [hflags]
  rfl

end Sys2Proof.Claims
end

-- ==== Proofs: the laws after a reset ====
section
/-!
O29. What a reset empties meets the laws whatever the state held before it: each law of a block that every reset sets is
shown of `resetBlocks`, for every state. The canonical form and the ranges, and the link, ask about what a reset keeps
too, and are shown of the part as delivered.
-/

namespace Sys2Proof.Claims

open Sys2Proof.Machine

/-! ## The laws that every reset makes hold -/

section

variable (s : State) (glyphs : Table GlyphRow) (f : Fli) (q : Option Programming)

/-- Every slot is FREE after a reset (R16). -/
theorem slotLaw_resetBlocks : (s.resetBlocks glyphs f q).slotLaw := ⟨rfl, nofun, .nil⟩

/-- The pool and the dirty list are empty after a reset, with no OVERLOAD (R37). -/
theorem queueLaw_resetBlocks : (s.resetBlocks glyphs f q).queueLaw :=
  ⟨rfl, Nat.zero_le _, nofun, .nil, nofun, nofun, Nat.zero_le _, nofun, nofun⟩

/-- No commit runs after a reset (R56). -/
theorem commitLaw_resetBlocks : (s.resetBlocks glyphs f q).commitLaw :=
  ⟨Nat.zero_le _, Nat.zero_le _, le_rfl, nofun⟩

/-- No page is defined after a reset (R3). -/
theorem pageLaw_resetBlocks : (s.resetBlocks glyphs f q).pageLaw := ⟨rfl, nofun, .nil⟩

/-- No layout is defined after a reset (R26). -/
theorem layoutLaw_resetBlocks : (s.resetBlocks glyphs f q).layoutLaw := ⟨rfl, nofun⟩

/-- No slot is placed after a reset (R16, R30). -/
theorem placementLaw_resetBlocks : (s.resetBlocks glyphs f q).placementLaw := ⟨Nat.zero_le _, nofun⟩

/-- Both copies of the composition hold eight hidden panes after a reset (R120). -/
theorem compositionLaw_resetBlocks : (s.resetBlocks glyphs f q).compositionLaw :=
  compositionLaw_iff.mpr ⟨.reset _, .reset _⟩

/-- The crawl is empty after a reset, under the format that the reset loads (R120, R191). -/
theorem crawlLaw_resetBlocks : (s.resetBlocks glyphs f q).crawlLaw :=
  (crawlLaw_iff _).mpr (.reset s.loadProfile.format.cellW_pos)

/-- No alert waits and no limit is FIRED after a reset (R16, R114). -/
theorem alertLaw_resetBlocks : (s.resetBlocks glyphs f q).alertLaw := ⟨Nat.zero_le _, nofun, nofun, .nil⟩

/-- No flash entry is in use after a reset (R100). -/
theorem flashLaw_resetBlocks : (s.resetBlocks glyphs f q).flashLaw := ⟨rfl, nofun, .nil, nofun, .nil, nofun, nofun⟩

/-- No cell names a flash entry after a reset (R1). -/
theorem referenceLaw_resetBlocks : (s.resetBlocks glyphs f q).referenceLaw := nofun

end

/-! ## The part as delivered -/

/-- With no generation done the factory profile is loaded as profile 0 (R189, R191), so that a power-on reset leaves the
part as it was delivered. -/
theorem resetBlocks_reset : State.reset.resetBlocks [] State.reset.fli.hardReset none = State.reset := rfl

/-- Every table is empty but those of the factory profile, which are canonical (R141). -/
theorem canonical_reset : Canonical State.reset where
  cells := rfl
  pages := rfl
  slots := rfl
  records _ := Slot.empty_canonical
  layouts := rfl
  pool := rfl
  flash := rfl
  staged := rfl
  active := rfl
  glyphs := rfl
  areas := rfl
  palette := Profile.factory_canonical.1
  styles := Profile.factory_canonical.2
  lines := rfl
  gens := rfl
  done := nofun
  programming := nofun

theorem linkSound_reset : LinkSound State.reset := resetBlocks_reset ▸ hardReset_sound State.reset []

/-- The settings are those of the factory profile, and nothing else is there that has a range (R141, R189). -/
theorem rangeForm_reset : RangeForm State.reset where
  cells := nofun
  settings := settings_factory
  areas := nofun
  glyphs := nofun
  flash := nofun
  ring := nofun
  blank := Nat.zero_lt_succ _
  lines := nofun
  gens := nofun
  programming := nofun
  loaded := Nat.zero_le _

/-- Settles O29: the part as delivered is what its own power-on reset leaves, so that it meets the laws that every reset
makes hold; its link is an emptied one, and its tables and settings are those of the factory profile. -/
theorem resetMeetsEveryLaw : Obligations.ResetMeetsEveryLaw := by
  obtain ⟨hlink, hreceiver⟩ := (linkSound_iff _).mp linkSound_reset
  refine ⟨congrArg Host.Outcome.next resetBlocks_reset, (canonical_iff _).mpr canonical_reset, hlink, hreceiver, ?_⟩
  rw [← resetBlocks_reset]
  exact ⟨slotLaw_resetBlocks .., queueLaw_resetBlocks .., commitLaw_resetBlocks .., pageLaw_resetBlocks ..,
    layoutLaw_resetBlocks .., placementLaw_resetBlocks .., compositionLaw_resetBlocks .., crawlLaw_resetBlocks ..,
    alertLaw_resetBlocks .., flashLaw_resetBlocks .., referenceLaw_resetBlocks _ _ _ _,
    rangeLaw_iff.mpr rangeForm_reset⟩

end Sys2Proof.Claims
end

-- ==== Proofs: the step and the queue of commands ====
section

namespace Sys2Proof.Claims

open Sys2Proof Sys2Proof.Machine

/-- Settles O1: the queue of commands either has a front, which then runs on the state with the rest, or is empty. -/
theorem stepRunsFrontCommand : Obligations.StepRunsFrontCommand := fun s i rest =>
  ⟨step_cons s i rest, step_nil s⟩

end Sys2Proof.Claims
end
